-- ==== Sys2Proof/Word.lean ====
section
/-! DEFINITION. The words and numbers of the WPC-816: bytes, and the number ranges by which it names its objects. -/

namespace Sys2Proof

/-- A byte of a line. -/
abbrev Byte := BitVec 8

/-- Segments 1 to 6, held as 0 to 5 (Conventions, "Numbering"). -/
abbrev SegId := Fin 6
/-- Gates G1 to G8, held as 0 to 7. -/
abbrev GateId := Fin 8
/-- Sign heads 1 to 16 by link address, held as 0 to 15. -/
abbrev SignId := Fin 16
/-- Paths P1 to P8, held as 0 to 7. -/
abbrev PathId := Fin 8
/-- Triggers 1 to 24, held as 0 to 23. -/
abbrev TrigId := Fin 24
/-- Schedule entries 1 to 16, held as 0 to 15. -/
abbrev EntryId := Fin 16
/-- Stations W1 to W3, held as 0 to 2. -/
abbrev StationId := Fin 3
/-- Capture channels C0 to C11. -/
abbrev ChanId := Fin 12
/-- Timebases T0 to T3. -/
abbrev TbId := Fin 4
/-- Analog inputs A0 to A9. -/
abbrev InputId := Fin 10
/-- Template slots 1 to 96, held as 0 to 95. -/
abbrev SlotId := Fin 96
/-- Operator notice slots 1 to 4, held as 0 to 3. -/
abbrev NoticeId := Fin 4
/-- Template numbers 0 to 96, where 0 is the built-in blank page (R164). -/
abbrev TemplateNo := Fin 97
/-- A set of sign addresses: bit k - 1 is set for member k (R188). -/
abbrev SignSet := BitVec 16
/-- A set of segments: bit k - 1 is set for member k (R188). -/
abbrev SegSet := BitVec 6
/-- A value of the corridor clock, 0 to 4,294,967,295 s (R117). -/
abbrev ClockValue := BitVec 32

end Sys2Proof
end

