-- ==== Sys2Proof/Config.lean ====
section
/-! DEFINITION. The configured records of the WPC-816, their value lists and the all-disabled working
configuration; and the values the manual leaves open. -/

namespace Sys2Proof

/-! ## Value lists of configured fields -/

/-- Reopen mode of a segment (R1). -/
inductive ReopenMode | automatic | confirmed
  deriving DecidableEq, Repr

/-- The four timebase rates: 1 MHz, 125 kHz, 15.625 kHz, 1.953125 kHz (R50). -/
inductive Rate | mhz1 | khz125 | khz15 | khz2
  deriving DecidableEq, Repr

/-- Division of the 1 MHz reference, which is also the tick length in microseconds (R50). -/
def Rate.division : Rate → Nat
  | .mhz1 => 1
  | .khz125 => 8
  | .khz15 => 64
  | .khz2 => 512

/-- Mode of a timebase (R51). -/
inductive TbMode | free | flash
  deriving DecidableEq, Repr

/-- Mode of a capture channel (R55). -/
inductive ChanMode | off | period | lowWidth | count
  deriving DecidableEq, Repr

/-- Edges per capture, N (R55). -/
inductive Edges | one | four | sixteen
  deriving DecidableEq, Repr

/-- The number N. -/
def Edges.number : Edges → Nat
  | .one => 1
  | .four => 4
  | .sixteen => 16

/-- The kinds of station quantity, in the order of R81. -/
inductive QKind | air | surf | rh | dew | frost | wind | gust
  deriving DecidableEq, Repr

/-- The 22 quantities (R81). -/
inductive Quant | station (w : StationId) (k : QKind) | supply
  deriving DecidableEq, Repr

/-- Relation of a trigger (R87). -/
inductive Relation | above | below
  deriving DecidableEq, Repr

/-- Reason label of a trigger (R87). -/
inductive Reason | wind | ice | snow | visibility | other
  deriving DecidableEq, Repr

/-- Kind of a path's detector (R100). -/
inductive DetKind | tripline | seismic
  deriving DecidableEq, Repr

/-- Detection mode of a path (R100). -/
inductive DetMode | any | both
  deriving DecidableEq, Repr

/-- Phase of a beacon (R100). -/
inductive BeaconPhase | a | b
  deriving DecidableEq, Repr

/-- Kind of a schedule entry (R121). -/
inductive SchedKind | once | daily
  deriving DecidableEq, Repr

/-- Report classes, from lowest to highest (The Report Queue; codes of R188). -/
inductive ReportClass | info | notice | alert | urgent
  deriving DecidableEq, Repr

/-- Rank of a report class; URGENT is the highest. -/
def ReportClass.rank : ReportClass → Nat
  | .info => 0
  | .notice => 1
  | .alert => 2
  | .urgent => 3

/-! ## Configured records, with the default columns -/

/-- Segment record (R1). -/
structure SegmentCfg where
  enabled : Bool := false
  noticeSet : SignSet := 0
  closureTemplate : TemplateNo := 1
  noticeLimit : Nat := 180
  sweepTime : Nat := 600
  reopenMode : ReopenMode := .confirmed
  deriving DecidableEq, Repr

/-- Gate record (R26). -/
structure GateCfg where
  enabled : Bool := false
  boundary : Fin 7 := 0
  guarded : SegId := 0
  travelLimit : Nat := 30
  startDuty : Nat := 30
  runDuty : Nat := 80
  reversalPause : Nat := 500
  retries : Nat := 2
  presenceUsed : Bool := true
  deriving DecidableEq, Repr

/-- Sign record (R128). -/
structure SignCfg where
  enabled : Bool := false
  maxBrightness : Nat := 100
  standing : TemplateNo := 0
  deriving DecidableEq, Repr

/-- Timebase record (R51). -/
structure TimebaseCfg where
  rate : Rate := .mhz1
  mode : TbMode := .free
  deriving DecidableEq, Repr

/-- Capture channel record (R55). -/
structure ChannelCfg where
  mode : ChanMode := .off
  edges : Edges := .one
  timebase : TbId := 0
  inverted : Bool := false
  deriving DecidableEq, Repr

/-- An analog calibration pair: the value at code 0 and at code 4095 (R66). -/
structure Calibration where
  lo : Int
  hi : Int
  deriving DecidableEq, Repr

/-- Station record (R66). -/
structure StationCfg where
  airInput : Option (Fin 9) := none
  airCal : Calibration := { lo := -500, hi := 500 }
  surfInput : Option (Fin 9) := none
  surfCal : Calibration := { lo := -500, hi := 500 }
  rhInput : Option (Fin 9) := none
  rhCal : Calibration := { lo := 0, hi := 1000 }
  wind : Option ChanId := none
  k : Nat := 500
  deriving DecidableEq, Repr

/-- Trigger record (R87). -/
structure TriggerCfg where
  enabled : Bool := false
  source : Quant := .station 0 .air
  relation : Relation := .above
  setLevel : Int := 0
  clearLevel : Int := -10
  setCount : Nat := 1
  clearCount : Nat := 1
  reason : Reason := .other
  segments : SegSet := 0
  template : TemplateNo := 0
  signs : SignSet := 0
  deriving DecidableEq, Repr

/-- One detector of a path record (R100): the debounce time serves a trip-line, threshold and window a seismic
detector. -/
structure Detector where
  chan : ChanId := 0
  kind : DetKind := .tripline
  debounce : Nat := 1000
  threshold : Nat := 20
  window : Nat := 10
  deriving DecidableEq, Repr

/-- Avalanche path record (R100). -/
structure PathCfg where
  enabled : Bool := false
  det1 : Detector := {}
  det2 : Option Detector := none
  mode : DetMode := .any
  confirmWindow : Nat := 60
  crossing : SegId := 0
  signs : SignSet := 0
  avalancheTemplate : TemplateNo := 0
  hazardTemplate : TemplateNo := 0
  beaconEnabled : Bool := false
  beaconPhase : BeaconPhase := .a
  deriving DecidableEq, Repr

/-- Schedule entry (R121). -/
structure ScheduleCfg where
  enabled : Bool := false
  kind : SchedKind := .daily
  closeTime : Nat := 0
  openTime : Nat := 3600
  lead : Nat := 0
  segments : SegSet := 0
  template : TemplateNo := 0
  signs : SignSet := 0
  deriving DecidableEq, Repr

/-- Supply record (R171), in hundredths of a volt. -/
structure SupplyCfg where
  ecoEnter : Int := 1180
  ecoLeave : Int := 1210
  resEnter : Int := 1120
  resLeave : Int := 1150
  cal : Calibration := { lo := 0, hi := 3000 }
  deriving DecidableEq, Repr

/-- The working configuration, which is also what the configuration image holds (The Configuration Image). -/
structure WorkingConfig where
  segments : Vector SegmentCfg 6 := Vector.replicate 6 {}
  gates : Vector GateCfg 8 := Vector.replicate 8 {}
  signs : Vector SignCfg 16 := Vector.replicate 16 {}
  timebases : Vector TimebaseCfg 4 := #v[{ rate := .mhz1 }, { rate := .khz125 }, { rate := .khz15 },
    { rate := .khz125, mode := .flash }]
  channels : Vector ChannelCfg 12 := Vector.replicate 12 {}
  stations : Vector StationCfg 3 := Vector.replicate 3 {}
  triggers : Vector TriggerCfg 24 := Vector.replicate 24 {}
  paths : Vector PathCfg 8 := Vector.replicate 8 {}
  entries : Vector ScheduleCfg 16 := Vector.replicate 16 {}
  supply : SupplyCfg := {}
  zone : Int := 0
  attention : ReportClass := .alert
  deriving DecidableEq, Repr

/-- The all-disabled working configuration (R178 step 2; R51 for the timebases). -/
def WorkingConfig.allDisabled : WorkingConfig := {}

/-! ## What the manual leaves open -/

/-- The silicon revision that GET_IDENTITY returns (R183); the manual states no value (log 8). -/
opaque Config.siliconRevision : Nat

/-- The code of TEMPLATE as the value of STORE_DONE and STORE_FAULT; no list of the manual numbers it (log 9). -/
opaque Config.templateValueCode : Int

/-- The code of CONFIG as the value of STORE_DONE and STORE_FAULT; no list of the manual numbers it (log 9). -/
opaque Config.configValueCode : Int

/-- The code of DOOR_OPEN and HEATER_FAIL as the value of HEAD_FLAGS; the manual does not number it (log 9). -/
opaque Config.headFlagsCode : Bool → Bool → Int

/-- Where the 16 kHz PWM period stands against the reference, in half microseconds; the manual fixes no phase (log 33). -/
opaque Config.pwmPhase : Nat

/-- The number sent in a field of so many bytes whose item is none; the manual numbers no such case (log 22). -/
opaque Config.noneField : Nat → Nat

/-- The number sent for a LONG latest period; the manual gives it no code (log 22). -/
opaque Config.longPeriod : Nat

/-- The number sent for the wind outcome of a station before any completion has measured it (log 22, log 34). -/
opaque Config.noWindOutcome : Nat

/-- The bytes of a family and part number and a silicon revision (R183); R188 names no kind for them (log 8, log 22). -/
opaque Config.partBytes : String → Nat → List Byte

/-- The bytes of a list whose length varies, from those of its members; R188 frames none (log 22). -/
opaque Config.listBytes : List (List Byte) → List Byte

/-- The bytes of an item of several fields that may be none; R188 frames none (log 22). -/
opaque Config.optionBytes : Option (List Byte) → List Byte

/-- The bytes of a member of a hold set, from the place of its source in the table of The Hold Set and its index; R188 names
no kind for it (log 22). -/
opaque Config.holdBytes : Nat → Nat → List Byte

/-- The bytes of a set of flash slots, from its mask; R188 names no kind for it (log 22). -/
opaque Config.slotSetBytes : Nat → List Byte

end Sys2Proof
end

