-- ==== Sys2Proof/Syntax.lean ====
section
/-! DEFINITION. The commands of the WPC-816: one constructor of Instr per row of spec/opcode_table.json, with the
fields its rule lists (log 25). -/

namespace Sys2Proof

/-- The body of a request frame, read by the length check of R181: it fits the request's fields, or it does not. -/
inductive Body (α : Type) | misfit | fits (a : α)
  deriving DecidableEq, Repr

/-! ## Fields of the requests

A number is the number on the line, before any check or clamp. An enumeration is none where the line carries a
code that no value of its list has (R188). -/

/-- PUT_SEGMENT (R3). -/
structure SegmentReq where
  index : Nat
  enabled : Option Bool
  noticeSet : SignSet
  closureTemplate : Nat
  noticeLimit : Nat
  sweepTime : Nat
  reopenMode : Option ReopenMode
  deriving DecidableEq, Repr

/-- PUT_GATE (R28). -/
structure GateReq where
  index : Nat
  enabled : Option Bool
  boundary : Nat
  guarded : Nat
  travelLimit : Nat
  startDuty : Nat
  runDuty : Nat
  reversalPause : Nat
  retries : Nat
  presenceUsed : Option Bool
  deriving DecidableEq, Repr

/-- PUT_SIGN (R129). -/
structure SignReq where
  index : Nat
  enabled : Option Bool
  maxBrightness : Nat
  standing : Nat
  deriving DecidableEq, Repr

/-- PUT_TIMEBASE (R51). -/
structure TimebaseReq where
  index : Nat
  rate : Option Rate
  mode : Option TbMode
  deriving DecidableEq, Repr

/-- PUT_CHANNEL (R56). -/
structure ChannelReq where
  index : Nat
  mode : Option ChanMode
  edges : Option Edges
  timebase : Nat
  inverted : Option Bool
  deriving DecidableEq, Repr

/-- An input or channel field that may be none (R66, R100): absent, a number, or a code that is neither. -/
inductive MaybeIndex | absent | num (n : Nat)
  deriving DecidableEq, Repr

/-- PUT_STATION (R67). -/
structure StationReq where
  index : Nat
  airInput : MaybeIndex
  airCal : Calibration
  surfInput : MaybeIndex
  surfCal : Calibration
  rhInput : MaybeIndex
  rhCal : Calibration
  wind : MaybeIndex
  k : Nat
  deriving DecidableEq, Repr

/-- PUT_TRIGGER (R88). -/
structure TriggerReq where
  index : Nat
  enabled : Option Bool
  source : Option Quant
  relation : Option Relation
  setLevel : Int
  clearLevel : Int
  setCount : Nat
  clearCount : Nat
  reason : Option Reason
  segments : BitVec 16
  template : Nat
  signs : SignSet
  deriving DecidableEq, Repr

/-- The fields of one detector in PUT_PATH (R101). -/
structure DetectorReq where
  chan : MaybeIndex
  kind : Option DetKind
  debounce : Nat
  threshold : Nat
  window : Nat
  deriving DecidableEq, Repr

/-- PUT_PATH (R101). -/
structure PathReq where
  index : Nat
  enabled : Option Bool
  det1 : DetectorReq
  det2 : DetectorReq
  mode : Option DetMode
  confirmWindow : Nat
  crossing : Nat
  signs : SignSet
  avalancheTemplate : Nat
  hazardTemplate : Nat
  beaconEnabled : Option Bool
  beaconPhase : Option BeaconPhase
  deriving DecidableEq, Repr

/-- PUT_SCHEDULE (R122). -/
structure ScheduleReq where
  index : Nat
  enabled : Option Bool
  kind : Option SchedKind
  closeTime : Nat
  openTime : Nat
  lead : Nat
  segments : BitVec 16
  template : Nat
  signs : SignSet
  deriving DecidableEq, Repr

/-- GET_RECORD (R184). -/
structure RecordReq where
  kind : Nat
  index : Nat
  deriving DecidableEq, Repr

/-- One item of a template line in PUT_TEMPLATE (R165): a character code, a field kind 1 to 6 with its argument, or
a byte that is neither. -/
inductive RawItem | char (code : Nat) | field (kind arg : Nat) | bad
  deriving DecidableEq, Repr

/-- PUT_TEMPLATE (R165). -/
structure TemplateReq where
  slot : Nat
  lines : List (List RawItem)
  deriving DecidableEq, Repr

/-- SERVICE_PASS (R21). -/
structure PassReq where
  gate : Nat
  duration : Nat
  deriving DecidableEq, Repr

/-- DECLARE_HAZARD (R108). -/
structure HazardReq where
  path : Nat
  close : Option Bool
  deriving DecidableEq, Repr

/-- POST_NOTICE (R135). -/
structure NoticeReq where
  slot : Nat
  signs : SignSet
  template : Nat
  deriving DecidableEq, Repr

/-! ## What the events carry -/

/-- Why a cabinet frame is discarded (R180). -/
inductive Discard | badCrc | badLength | stopBit
  deriving DecidableEq, Repr

/-- Why a complete link frame is a bad answer (R146, R189). -/
inductive BadAnswer | check | length | address | kind | field
  deriving DecidableEq, Repr

/-- Head state of a STATUS (R189). -/
inductive HeadPhase | ready | starting
  deriving DecidableEq, Repr

/-- The fields of a good STATUS (R189, STATUS payload). -/
structure HeadStatus where
  phase : HeadPhase
  shownTag : Byte
  toggle : Bool
  brightness : Byte
  displayFail : Bool
  doorOpen : Bool
  heaterFail : Bool
  ambient : BitVec 16
  latestPacket : Byte
  deriving DecidableEq, Repr

/-! ## The commands -/

/-- The commands, one for each row of the opcode table and in its order. Every request carries the tag of its frame
(R182). -/
inductive Instr
  | getIdentity (tag : Byte) (body : Body Unit)
  | setClock (tag : Byte) (body : Body ClockValue)
  | getClock (tag : Byte) (body : Body Unit)
  | putSegment (tag : Byte) (body : Body SegmentReq)
  | putGate (tag : Byte) (body : Body GateReq)
  | putSign (tag : Byte) (body : Body SignReq)
  | putTimebase (tag : Byte) (body : Body TimebaseReq)
  | putChannel (tag : Byte) (body : Body ChannelReq)
  | putStation (tag : Byte) (body : Body StationReq)
  | putTrigger (tag : Byte) (body : Body TriggerReq)
  | putPath (tag : Byte) (body : Body PathReq)
  | putSchedule (tag : Byte) (body : Body ScheduleReq)
  | putSupply (tag : Byte) (body : Body SupplyCfg)
  | setZone (tag : Byte) (body : Body Int)
  | setAttention (tag : Byte) (body : Body (Option ReportClass))
  | getRecord (tag : Byte) (body : Body RecordReq)
  | saveConfig (tag : Byte) (body : Body Unit)
  | putTemplate (tag : Byte) (body : Body TemplateReq)
  | getTemplate (tag : Byte) (body : Body Nat)
  | closeSegment (tag : Byte) (body : Body Nat)
  | releaseSegment (tag : Byte) (body : Body Nat)
  | reopenSegment (tag : Byte) (body : Body Nat)
  | servicePass (tag : Byte) (body : Body PassReq)
  | resetGateFault (tag : Byte) (body : Body Nat)
  | declareHazard (tag : Byte) (body : Body HazardReq)
  | clearPath (tag : Byte) (body : Body Nat)
  | postNotice (tag : Byte) (body : Body NoticeReq)
  | withdrawNotice (tag : Byte) (body : Body Nat)
  | restart (tag : Byte) (body : Body Unit)
  | getSegment (tag : Byte) (body : Body Nat)
  | getGate (tag : Byte) (body : Body Nat)
  | getSign (tag : Byte) (body : Body Nat)
  | getPath (tag : Byte) (body : Body Nat)
  | getTrigger (tag : Byte) (body : Body Nat)
  | getQuantities (tag : Byte) (body : Body Unit)
  | getSchedule (tag : Byte) (body : Body Nat)
  | getSupply (tag : Byte) (body : Body Unit)
  | fetchReports (tag : Byte) (body : Body Unit)
  | unknownKind (kind tag : Byte)
  | cabinetFrameDiscarded (why : Discard)
  | interByteGapTimeout (b : Byte)
  | replySent
  | powerOn (strap1 strap2 : Bool)
  | brownOut
  | resetLineLow
  | resetLineHigh (strap1 strap2 : Bool)
  | loadingEnd
  | limitSwitchChange (g : GateId) (up down : Bool)
  | presenceChange (g : GateId) (level : Bool)
  | driverTrip (g : GateId) (level : Bool)
  | travelTimeout (g : GateId)
  | pauseExpiry (g : GateId)
  | holdOffExpiry (g : GateId)
  | retryDelayExpiry (g : GateId)
  | displacementExpiry (g : GateId)
  | rampStep (g : GateId)
  | noticeTimerExpiry (seg : SegId)
  | sweepTimerExpiry (seg : SegId)
  | passTimerExpiry (g : GateId)
  | timebaseWrap (t : TbId)
  | flashSlotAdvance
  | captureEdge (c : ChanId) (rising : Bool)
  | lowWidthDebounceReached (c : ChanId)
  | highTimeReached (c : ChanId)
  | binClose (c : ChanId)
  | confirmTimerExpiry (p : PathId)
  | sampleCompletion
  | secondEvent
  | rerenderCheck
  | templateWriteComplete (readBackMatches : Bool)
  | configSaveComplete (readBackMatches : Bool)
  | pollDue (h : SignId)
  | statusReceived (st : HeadStatus)
  | ackReceived
  | nakReceived
  | stallReceived
  | badAnswerReceived (why : BadAnswer)
  | answerWindowExpiry (bytesSeen : Bool)
  | nakWaitExpiry
  | linkByteOutsideWindow (b : Byte)
  | analogConversionComplete (i : InputId) (code : Nat)
  | huntByteDiscarded (b : Byte)
  deriving DecidableEq, Repr

end Sys2Proof
end

