-- ==== Sys2Proof/Decode.lean ====
section
/-! DEFINITION. The reading of table words. No row of the opcode table has bits: a command is a frame, a pin or a timer
event, and no word spells one (log 4). -/

namespace Sys2Proof

/-- The command a table word spells: none, since the table gives no row any bits. -/
def decodeTableWord (_nbits _w : Nat) : Option Instr := none

end Sys2Proof
end

