-- ==== Sys2Proof/Machine/Numbers.lean ====
section
/-! DEFINITION. The arithmetic of the Conventions: the one rounding rule, clamping, times, and the CRC of both lines. -/

namespace Sys2Proof.Machine

/-- Division rounded to the nearest whole number, halves toward plus infinity: floor((2n + d) / 2d) (Conventions,
"Rounding"). -/
def roundDiv (n : Int) (d : Nat) : Int := (2 * n + d) / (2 * d)

/-- Natural numbers divided by the same rule. -/
def nearest (n d : Nat) : Nat := (2 * n + d) / (2 * d)

/-- Clamping of a number to the range of its field (Conventions, "Refusing and clamping"). -/
def clampNat (lo hi n : Nat) : Nat := max lo (min hi n)

/-- Clamping of a signed number to the range of its field. -/
def clampInt (lo hi n : Int) : Int := max lo (min hi n)

/-- Milliseconds in the microseconds of the reference. -/
def ms (n : Nat) : Nat := n * 1000

/-- Seconds in the microseconds of the reference. -/
def sec (n : Nat) : Nat := n * 1000000

/-- Division rounded up. -/
def ceilDiv (n d : Nat) : Nat := (n + d - 1) / d

/-- Time left until a timer's expiry, in units of so many microseconds, rounded up; 0 when stopped (R25, R116). -/
def timeLeft (now unit : Nat) : Option Nat → Nat
  | none => 0
  | some t => ceilDiv (t - now) unit

/-- Mean of a ring of samples, rounded by the Conventions (R72). -/
def ringMean (l : List Int) : Int := roundDiv l.sum l.length

/-- One bit of the CRC: polynomial 0x1021 (R180). -/
def crcBit (c : BitVec 16) : BitVec 16 :=
  if c.msb then (c <<< 1) ^^^ 0x1021#16 else c <<< 1

/-- One byte of the CRC, most significant bit first (R180). -/
def crcByte (c : BitVec 16) (b : Byte) : BitVec 16 :=
  let x := c ^^^ (b.setWidth 16 <<< 8)
  crcBit (crcBit (crcBit (crcBit (crcBit (crcBit (crcBit (crcBit x)))))))

/-- CRC-16 with initial value 0xFFFF and no final inversion (R180). -/
def crc16 (l : List Byte) : BitVec 16 := l.foldl crcByte 0xFFFF#16

/-- The two bytes of a 16-bit number, high byte first (Cabinet Port). -/
def bytes16 (w : BitVec 16) : List Byte := [(w >>> 8).setWidth 8, w.setWidth 8]

/-- A field of n bytes, high byte first. -/
def bytesOf : Nat → Nat → List Byte
  | 0, _ => []
  | n + 1, v => bytesOf n (v / 256) ++ [BitVec.ofNat 8 v]

end Sys2Proof.Machine
end

