-- ==== Sys2Proof/Machine/State.lean ====
section
/-! DEFINITION. Everything the WPC-816 holds, as plain data, and the machine right after reset.

State has two parts. Road is what reacts within one event: segments, gates, signs, the sign link, template slots and
the report queue. Site is what those reactions only read: time, configuration, hold sets, measurements, triggers,
paths, schedule, supply, and the cabinet port. -/

namespace Sys2Proof.Machine

/-! ## Segment Controller -/

/-- Segment states (Segment States table). -/
inductive SegState | open | notice | clearing | closed | reopening
  deriving DecidableEq, Repr

/-- A hold: one source of closure (The Hold Set). -/
inductive Hold
  | trigger (k : TrigId) | path (p : PathId) | hazard (p : PathId) | schedule (e : EntryId) | operator | restart
  deriving DecidableEq, Repr

/-- A segment's hold set: each source at most once and in no order (R5). -/
structure HoldSet where
  triggers : Vector Bool 24 := Vector.replicate 24 false
  paths : Vector Bool 8 := Vector.replicate 8 false
  hazards : Vector Bool 8 := Vector.replicate 8 false
  schedules : Vector Bool 16 := Vector.replicate 16 false
  operator : Bool := false
  restart : Bool := false
  deriving DecidableEq, Repr

/-- Runtime fields of a segment (R1). A running timer is the time at which it expires. -/
structure Segment where
  state : SegState := .open
  noticeTimer : Option Nat := none
  sweepTimer : Option Nat := none
  unguarded : Bool := false
  noticeIncomplete : Bool := false
  deriving DecidableEq, Repr

/-- A gate's pass record (Service Passes): the duration in seconds and, while RUNNING, the expiry of its timer. -/
inductive Pass | idle | waiting (duration : Nat) | running (duration until_ : Nat)
  deriving DecidableEq, Repr

/-- Causes of PASS_ENDED, in the order of the reports table. -/
inductive PassEnd | expiry | reopening | gateFault | rewrite
  deriving DecidableEq, Repr

/-! ## Gate Drive Unit -/

/-- Gate states, in the order of the Gate States table (R188). -/
inductive GateState
  | unknown | up | down | waitLower | waitRaise | lowering | raising | paused | blocked | tripped | faulted
  deriving DecidableEq, Repr

/-- A gate's target or direction. -/
inductive Dir | up | down
  deriving DecidableEq, Repr

/-- Causes of FAULTED (R26). -/
inductive FaultCause | travelTimeout | driveTrip | limitConflict
  deriving DecidableEq, Repr

/-- Runtime fields and input levels of a gate (R26, R49). duty is the present duty, which the ramp writes to the buffer;
dutyAt is the moment of that write, and driven the duty in force at that moment (R35; log 33). -/
structure Gate where
  state : GateState := .unknown
  target : Option Dir := none
  retryCount : Nat := 0
  permit : Bool := false
  duty : Nat := 0
  driven : Nat := 0
  dutyAt : Nat := 0
  fault : Option FaultCause := none
  travelTimer : Option Nat := none
  pauseTimer : Option Nat := none
  holdOffTimer : Option Nat := none
  retryTimer : Option Nat := none
  displaceTimer : Option Nat := none
  rampTimer : Option Nat := none
  upLimit : Bool := false
  downLimit : Bool := false
  presence : Bool := false
  trip : Bool := false
  deriving DecidableEq, Repr

/-! ## Timebase and Capture Unit -/

/-- A completed period (R60): its ticks, or none for LONG, with N, timebase, rate and moment of completion. -/
structure Period where
  ticks : Option Nat
  edges : Edges
  timebase : TbId
  rate : Rate
  completed : Nat
  deriving DecidableEq, Repr

/-- Continuity of a LOWWIDTH channel (R62). -/
inductive Continuity | unknown | broken | intact
  deriving DecidableEq, Repr

/-- Runtime fields of a capture channel (R57): pin is the level at the pin, before polarity, and levelHeld says that the
time of the present level has stopped at 65,535 ms (R61). -/
structure Channel where
  pin : Bool := false
  restartedAt : Nat := 0
  edgeCount : Nat := 0
  reference : Option Nat := none
  wraps : Nat := 0
  latest : Option Period := none
  levelCount : Nat := 0
  levelWraps : Nat := 0
  levelHeld : Bool := false
  continuity : Continuity := .unknown
  bin : Nat := 0
  bins : List Nat := []
  binEnd : Option Nat := none
  deriving DecidableEq, Repr

/-! ## Weather Acquisition Unit -/

/-- Qualities, from worst to best (R74). -/
inductive Quality | absent | stale | good
  deriving DecidableEq, Repr

/-- A published quantity (R74). -/
structure Quantity where
  value : Int := 0
  quality : Quality := .absent
  deriving DecidableEq, Repr

/-- An analog input's sample ring, newest first, and fault flag (R72, R73). -/
structure Analog where
  ring : List Int := []
  fault : Bool := false
  deriving DecidableEq, Repr

/-- What the latest completion did for a wind channel (R86). R86 lists four outcomes; none is the model's own fifth, shown
while no completion has measured the station since a reset or an accepted PUT_STATION (DESIGN CHOICE, log 34). -/
inductive WindOutcome | none | sample | calm | skipped | notPeriod
  deriving DecidableEq, Repr

/-- Runtime state of a station (R66, R86). -/
structure Station where
  air : Analog := {}
  surf : Analog := {}
  rh : Analog := {}
  windRing : List Nat := []
  windOutcome : WindOutcome := .none
  deriving DecidableEq, Repr

/-! ## Trigger Evaluator -/

/-- Trigger states (R87). -/
inductive TrigState | disabled | armed | rising | active | falling
  deriving DecidableEq, Repr

/-- Causes of TRIGGER_CLEARED (R97). -/
inductive ClearCause | samples | sourceAbsent | rewrite
  deriving DecidableEq, Repr

/-- Runtime fields of a trigger (R87). -/
structure Trigger where
  state : TrigState := .disabled
  count : Nat := 0
  latest : Option Quantity := none
  deriving DecidableEq, Repr

/-! ## Avalanche Path Unit -/

/-- Detection states (R100). -/
inductive Detection | quiet | suspect | released
  deriving DecidableEq, Repr

/-- Detector states (R100). -/
inductive DetState | ready | fired | spent
  deriving DecidableEq, Repr

/-- Coverage of a path (R100). -/
inductive Coverage | full | degraded | blind
  deriving DecidableEq, Repr

/-- Beacon patterns (R112). -/
inductive Pattern | off | slow | fast
  deriving DecidableEq, Repr

/-- Which of a path's two detectors. -/
inductive DetNo | first | second
  deriving DecidableEq, Repr

/-- Runtime fields of a detector (R100). -/
structure DetectorRt where
  state : DetState := .ready
  bins : Nat := 0
  deriving DecidableEq, Repr

/-- Runtime fields of a path and its beacon (R100). -/
structure Path where
  detection : Detection := .quiet
  declared : Bool := false
  closeOption : Bool := false
  det1 : DetectorRt := {}
  det2 : DetectorRt := {}
  confirmTimer : Option Nat := none
  coverage : Coverage := .full
  wanted : BitVec 8 := 0
  active : BitVec 8 := 0
  lit : Bool := false
  deriving DecidableEq, Repr

/-! ## Schedule Unit -/

/-- States of a schedule entry (R121). -/
inductive SchedState | idle | lead | closing | ended
  deriving DecidableEq, Repr

/-! ## Sign Claim Resolver -/

/-- The source of a claim (Claims table). -/
inductive Source
  | segment (s : SegId) | path (p : PathId) | trigger (k : TrigId) | schedule (e : EntryId) | operator (n : NoticeId)
  deriving DecidableEq, Repr

/-- Claim classes, highest priority first (R131). -/
inductive ClaimClass | avalanche | closure | operator | hazard | schedule | advisory
  deriving DecidableEq, Repr

/-- A claim on a sign (R130). -/
structure Claim where
  source : Source
  cls : ClaimClass
  template : TemplateNo
  deriving DecidableEq, Repr

/-- A page (R136). Class and claim are none for the standing page. -/
structure Page where
  text : List Nat
  template : TemplateNo
  cls : Option ClaimClass
  claim : Option Source
  cap : Nat
  flashing : Bool
  deriving DecidableEq, Repr

/-- A pending page, with the stamp of the moment its sign last went from none to a pending page (R160). -/
structure PendingPage where
  page : Page
  since : Nat
  deriving DecidableEq, Repr

/-- The sent page with its tag (R142). -/
structure SentPage where
  page : Page
  tag : Byte
  deriving DecidableEq, Repr

/-- The confirmed claim (R143): source and class are none for STANDING. -/
structure Confirmed where
  claim : Option Source
  cls : Option ClaimClass
  tag : Byte
  deriving DecidableEq, Repr

/-- Slot states without their templates (R164). -/
inductive SlotKind | empty | writing | valid | bad
  deriving DecidableEq, Repr

/-- The unusable-template memory (R140): claim source or none for the standing page, slot, and slot state. -/
structure Unusable where
  claim : Option Source
  slot : TemplateNo
  kind : SlotKind
  deriving DecidableEq, Repr

/-- Runtime fields of a sign (R128). -/
structure Sign where
  claims : List Claim := []
  pending : Option PendingPage := none
  sent : Option SentPage := none
  confirmed : Option Confirmed := none
  unusable : Option Unusable := none
  deriving DecidableEq, Repr

/-- An active operator notice record (R135). -/
structure Notice where
  signs : SignSet
  template : TemplateNo
  deriving DecidableEq, Repr

/-! ## Sign Link Master -/

/-- Link states of a head (R147). -/
inductive LinkState | unconfigured | probing | online | lagging | silent | stalled
  deriving DecidableEq, Repr

/-- Causes of HEAD_STALLED (R158). -/
inductive StallCause | stall | displayFail
  deriving DecidableEq, Repr

/-- Causes of LOAD_ABANDONED (R151 to R153). -/
inductive AbandonCause | naks | stall | silent
  deriving DecidableEq, Repr

/-- A head link record (R147). -/
structure Head where
  link : LinkState := .unconfigured
  toggle : Option Bool := none
  missed : Nat := 0
  naks : Nat := 0
  nextTag : Byte := 1
  lastEnd : Nat := 0
  due : Option Nat := none
  status : Option HeadStatus := none
  deriving DecidableEq, Repr

/-- The step of a transaction: a POLL, or one of the four steps of a LOAD (R149). -/
inductive Step | poll | command | text1 | text2 | confirm
  deriving DecidableEq, Repr

/-- What a transaction waits for: an answer, or the end of a NAK delay, each until a time (R146, R152). -/
inductive Wait | answer (until_ : Nat) | nak (until_ : Nat)
  deriving DecidableEq, Repr

/-- The transaction that has the link (R147): rewritten is an order to ignore its answer (R161), reserved an order to
end it after its answer (R155). -/
structure Transaction where
  head : SignId
  step : Step
  wait : Wait
  toggle : Bool
  rewritten : Bool := false
  reserved : Bool := false
  deriving DecidableEq, Repr

/-! ## Store Controller -/

/-- Kinds of template field (R137). -/
inductive Field
  | air (w : StationId) | surf (w : StationId) | wind (w : StationId) | gust (w : StationId)
  | close (e : EntryId) | open (e : EntryId)
  deriving DecidableEq, Repr

/-- One item of a template line (R165): a fixed character or a field. -/
inductive Item | char (code : Nat) | field (f : Field)
  deriving DecidableEq, Repr

/-- A template: three lines (R137). -/
structure Template where
  line1 : List Item := []
  line2 : List Item := []
  line3 : List Item := []
  deriving DecidableEq, Repr

/-- A template slot (R164). For a VALID slot, intact says that the stored check passes (log 7). -/
inductive Slot | empty | writing (t : Template) | valid (t : Template) (intact : Bool) | bad
  deriving DecidableEq, Repr

/-- State of the configuration image (R169). -/
inductive ImageState | valid | writing | invalid
  deriving DecidableEq, Repr

/-- The configuration image (R169); intact says that its check passes (log 7). -/
structure Image where
  state : ImageState := .invalid
  records : WorkingConfig := {}
  intact : Bool := false
  deriving DecidableEq, Repr

/-- The store operation in flight (R168). -/
inductive StoreOp | template (slot : SlotId) | config
  deriving DecidableEq, Repr

/-! ## Supply Monitor, resets, reports -/

/-- Supply stages (R172). -/
inductive Stage | normal | economy | reserve
  deriving DecidableEq, Repr

/-- Start causes (R177). -/
inductive StartCause | power | line | restart
  deriving DecidableEq, Repr

/-- Whether the part is held in reset, in LOADING, or RUNNING (R177, R178). -/
inductive Phase | held | loading | running
  deriving DecidableEq, Repr

/-- Line rates of the cabinet line (R179). -/
inductive LineRate | baud9600 | baud19200 | baud57600 | baud115200
  deriving DecidableEq, Repr

/-- Report kinds (Report kinds table). -/
inductive ReportKind
  | start | storeDone | storeFault | supplyStage | clockSet | scheduleState
  | segmentState | noticeExpired | segmentUnguarded | reopenBlocked | passEnded | passCancelled
  | gateFault | gateTripped | gateObstructed | gateObstructedAvalanche | gateDisplaced
  | sensorFault | sensorRestored | triggerActive | triggerCleared
  | pathSuspect | pathReleased | pathUnconfirmed | pathCleared | hazardDeclared
  | triplineFoundBroken | triplineRestored | pathDegraded | pathBlind | pathCoverageRestored
  | claimDisplaced | claimRefused | templateEmpty | templateBad
  | headLinkState | headLinkLost | headStalled | loadAbandoned | loadUnconfirmed | headFlags | headRestarted
  deriving DecidableEq, Repr

/-- The value of a report, by what it names (each chapter's reports table); its code is a matter of the wire. -/
inductive ReportValue
  | none | number (n : Int) | startCause (c : StartCause) | template | config | stage (s : Stage)
  | clock (v : ClockValue) | sched (s : SchedState) | segState (s : SegState) | segment (s : SegId) | gate (g : GateId)
  | passEnd (c : PassEnd) | path (p : PathId) | fault (c : FaultCause) | limit (d : Dir) | reason (r : Reason)
  | clearCause (c : ClearCause) | chan (c : ChanId) | detection (d : Detection) | close (yes : Bool)
  | source (s : Source) | slot (n : TemplateNo) | link (l : LinkState) | stall (c : StallCause)
  | abandon (c : AbandonCause) | flags (door heater : Bool)
  deriving DecidableEq, Repr

/-- A report (The Report Queue); the class is fixed by the kind. -/
structure Report where
  kind : ReportKind
  subject : Nat
  value : ReportValue
  stamp : Option ClockValue
  deriving DecidableEq, Repr

/-! ## Replies -/

/-- Result codes (R182). -/
inductive ResultCode
  | ok | unknownKind | badLength | badIndex | badValue | inUse | held | busy | notSet | notEnabled
  deriving DecidableEq, Repr

/-- A configured record, as replies carry it (R184). -/
inductive RecordValue
  | segment (c : SegmentCfg) | gate (c : GateCfg) | sign (c : SignCfg) | timebase (c : TimebaseCfg)
  | channel (c : ChannelCfg) | station (c : StationCfg) | trigger (c : TriggerCfg) | path (c : PathCfg)
  | schedule (c : ScheduleCfg) | supply (c : SupplyCfg) | zone (offset : Int) | attention (level : ReportClass)
  deriving DecidableEq, Repr

/-- An analog input's measurement status (R86): latest code, samples in the ring, fault flag. -/
structure AnalogStatus where
  code : Nat
  samples : Nat
  fault : Bool
  deriving DecidableEq, Repr

/-- A wind channel's measurement status (R86). -/
structure WindStatus where
  samples : Nat
  latest : Option Nat
  outcome : WindOutcome
  deriving DecidableEq, Repr

/-- Measurement status that GET_RECORD adds (R65, R86). -/
inductive RecordStatus
  | none
  | timebase (count : Nat) (slot : Option (Fin 8))
  | channelOff
  | channelPeriod (edgeCount : Nat) (hasReference : Bool) (latest : Option (Option Nat)) (ageMs : Option Nat)
  | channelLowWidth (level : Bool) (lowMs highMs : Nat) (continuity : Continuity)
  | channelCount (bin closed : Nat) (bins : List Nat)
  | station (air surf rh : Option AnalogStatus) (wind : Option WindStatus)
  deriving DecidableEq, Repr

/-- GET_IDENTITY (R183): part is the family and part number. -/
structure IdentityView where
  part : String
  revision : Nat
  phase : Phase
  cause : StartCause
  rate : LineRate
  image : ImageState
  storeOp : Option StoreOp
  deriving DecidableEq, Repr

/-- A pass record as GET_SEGMENT shows it (R25): the gate, the record, and the seconds remaining. -/
structure PassView where
  gate : GateId
  pass : Pass
  left : Nat
  deriving DecidableEq, Repr

/-- GET_SEGMENT (R25). -/
structure SegmentView where
  cfg : SegmentCfg
  state : SegState
  holds : HoldSet
  guards : List GateId
  noticeLeft : Nat
  sweepLeft : Nat
  unguarded : Bool
  noticeIncomplete : Bool
  passes : List PassView
  deriving DecidableEq, Repr

/-- GET_GATE (R49); the queue position is 0 when not queued. -/
structure GateView where
  cfg : GateCfg
  state : GateState
  target : Option Dir
  fault : Option FaultCause
  upLimit : Bool
  downLimit : Bool
  presence : Bool
  trip : Bool
  retryCount : Nat
  permit : Bool
  queuePos : Nat
  duty : Nat
  travelLeft : Option Nat
  pauseLeft : Option Nat
  holdOffLeft : Option Nat
  retryLeft : Option Nat
  displaceLeft : Option Nat
  deriving DecidableEq, Repr

/-- GET_SIGN (R145, R163). The shown claim is none for STANDING. -/
structure SignView where
  cfg : SignCfg
  claims : List Claim
  shown : Option Source
  pending : Option Page
  sent : Option SentPage
  confirmed : Option Confirmed
  link : LinkState
  toggle : Option Bool
  missed : Nat
  naks : Nat
  nextTag : Byte
  status : Option HeadStatus
  inProgress : Option Step
  dueIn : Option Nat
  sinceLast : Nat
  deriving DecidableEq, Repr

/-- What GET_PATH shows of a detector's channel (R116). -/
inductive DetReading | tripline (c : Continuity) | seismic (sum bins : Nat)
  deriving DecidableEq, Repr

/-- A detector as GET_PATH shows it (R116). -/
structure DetectorView where
  state : DetState
  usable : Bool
  reading : DetReading
  deriving DecidableEq, Repr

/-- GET_PATH (R116): path is the one it names. -/
structure PathView where
  path : PathId
  cfg : PathCfg
  detection : Detection
  declared : Bool
  closeOption : Bool
  confirmLeft : Nat
  coverage : Coverage
  det1 : DetectorView
  det2 : Option DetectorView
  holdPath : Bool
  holdHazard : Bool
  claimSigns : SignSet
  pattern : Pattern
  wanted : BitVec 8
  active : BitVec 8
  lit : Bool
  deriving DecidableEq, Repr

/-- GET_TRIGGER (R99). -/
structure TriggerView where
  cfg : TriggerCfg
  state : TrigState
  count : Nat
  latest : Option Quantity
  stands : Bool
  holdSegments : SegSet
  claimSigns : SignSet
  deriving DecidableEq, Repr

/-- GET_SCHEDULE (R127). -/
structure ScheduleView where
  cfg : ScheduleCfg
  state : SchedState
  holdSegments : SegSet
  claimSigns : SignSet
  nextChange : Option Nat
  deriving DecidableEq, Repr

/-- GET_SUPPLY (R176). -/
structure SupplyView where
  cfg : SupplyCfg
  supply : Quantity
  samples : Nat
  stage : Stage
  established : Bool
  fall : Nat
  deep : Nat
  rise : Nat
  permitCount : Nat
  holders : Nat
  cap : Nat
  pollInterval : Nat
  deriving DecidableEq, Repr

/-- The content of a reply after its result code (R182), by what each chapter lists. A record comes with its index, 0
where it has none. -/
inductive ReplyBody
  | none
  | identity (v : IdentityView)
  | clockSet (value : ClockValue) (before : Option ClockValue)
  | clock (value : ClockValue) (zone : Int) (localTime : Nat)
  | zoneOnly (zone : Int)
  | stored (n : Nat) (r : RecordValue)
  | storedEntry (n : Nat) (c : ScheduleCfg) (s : SchedState)
  | record (n : Nat) (r : RecordValue) (s : RecordStatus)
  | templateCells (slot cells1 cells2 cells3 : Nat)
  | template (slot : TemplateNo) (kind : SlotKind) (t : Option (Template × Nat × Nat × Nat))
  | segState (s : SegState)
  | gateState (s : GateState)
  | detection (d : Detection)
  | duration (seconds : Nat)
  | signs (set : SignSet)
  | segment (v : SegmentView)
  | gate (v : GateView)
  | sign (v : SignView)
  | path (v : PathView)
  | trigger (v : TriggerView)
  | quantities (table : Vector Quantity 22) (samples : Nat)
  | schedule (v : ScheduleView)
  | supply (v : SupplyView)
  | reports (lost : Bool) (left : Nat) (delivered : List Report)
  deriving DecidableEq, Repr

/-- A reply in the transmit list (R181, R182). kind is the request's kind; answers says that it is the pending
request's own reply, and restarts that the controller resets once it has been sent (R183). -/
structure Reply where
  kind : Byte
  tag : Byte
  result : ResultCode
  body : ReplyBody := .none
  answers : Bool := true
  restarts : Bool := false
  deriving DecidableEq, Repr

/-- The cabinet receiver (R180), with the bytes of the frame so far: length byte, then kind, tag and body. -/
inductive Receiver
  | hunt | length | body (len : Nat) (got : List Byte) | check (len : Nat) (got : List Byte) (hi : Option Byte)
  deriving DecidableEq, Repr

/-! ## The state -/

/-- What the reactions of segments, gates, signs and link only read. Times are in microseconds of the reference. -/
structure Site where
  now : Nat := 0
  phase : Phase := .loading
  powerGood : Bool := true
  resetLow : Bool := false
  strap1 : Bool := false
  strap2 : Bool := false
  lineRate : LineRate := .baud9600
  startCause : StartCause := .power
  powerSinceRun : Bool := true
  cfg : WorkingConfig := {}
  holds : Vector HoldSet 6 := Vector.replicate 6 {}
  tbZero : Vector Nat 4 := Vector.replicate 4 0
  slot : Fin 8 := 0
  channels : Vector Channel 12 := Vector.replicate 12 {}
  codes : Vector Nat 10 := Vector.replicate 10 0
  stations : Vector Station 3 := Vector.replicate 3 {}
  supplyIn : Analog := {}
  table : Vector Quantity 22 := Vector.replicate 22 {}
  sampleEnd : Option Nat := none
  triggers : Vector Trigger 24 := Vector.replicate 24 {}
  paths : Vector Path 8 := Vector.replicate 8 {}
  clock : Option ClockValue := none
  secondEnd : Option Nat := none
  entries : Vector SchedState 16 := Vector.replicate 16 .idle
  notices : Vector (Option Notice) 4 := Vector.replicate 4 none
  rerenderAt : Option Nat := none
  image : Image := {}
  storeOp : Option StoreOp := none
  stage : Stage := .normal
  established : Bool := false
  fall : Nat := 0
  deep : Nat := 0
  rise : Nat := 0
  rx : Receiver := .hunt
  rxLast : Nat := 0
  requestPending : Bool := false
  tx : List Reply := []
  deriving DecidableEq, Repr

/-- What reacts within one event: segments, gates, signs, the sign link, template slots and the report queue. -/
structure Road where
  segments : Vector Segment 6 := Vector.replicate 6 {}
  passes : Vector Pass 8 := Vector.replicate 8 .idle
  gates : Vector Gate 8 := Vector.replicate 8 {}
  queue : List GateId := []
  signs : Vector Sign 16 := Vector.replicate 16 {}
  heads : Vector Head 16 := Vector.replicate 16 {}
  link : Option Transaction := none
  stamps : Nat := 0
  slots : Vector Slot 96 := Vector.replicate 96 .empty
  reports : List Report := []
  lost : Bool := false
  attn : Bool := false
  deriving DecidableEq, Repr

/-- The controller, with the queue of commands that are waiting, first in, first out (log 4). -/
structure State where
  site : Site := {}
  road : Road := {}
  pending : List Instr := []
  deriving DecidableEq, Repr

/-- Why the machine would stop with a fault. No constructor: the manual names no event on which the controller
stops, and no meaning faults. -/
inductive Fault
  deriving DecidableEq, Repr

/-- Why a command would have no meaning. -/
inductive Refusal
  /-- Raised by no arm once every command has its meaning; safe, since the model stops where the hardware goes on. -/
  | notModelled (mnemonic : String)
  deriving DecidableEq, Repr

/-- Right after reset: LOADING has begun after the first power-on of a part as it left the factory, so every slot is
EMPTY and the image INVALID (R164, R169), and the START report and the STORE_FAULT report of the invalid image are
queued (R178 steps 1 and 2; log 1). -/
def State.reset : State :=
  { site := {}
    road := { reports := [
      { kind := .start, subject := 0, value := .startCause .power, stamp := none },
      { kind := .storeFault, subject := 0, value := .config, stamp := none }] }
    pending := [] }

end Sys2Proof.Machine
end

