-- ==== Sys2Proof/Machine/Ops.lean ====
section
/-! DEFINITION. Named operations over the parts of the state: reading and writing one record, hold sets, sets of
objects, and the report queue with ATTN. -/

namespace Sys2Proof.Machine

/-! ## Records of Road -/

def Road.segment (r : Road) (s : SegId) : Segment := r.segments[s]
def Road.pass (r : Road) (g : GateId) : Pass := r.passes[g]
def Road.gate (r : Road) (g : GateId) : Gate := r.gates[g]
def Road.sign (r : Road) (h : SignId) : Sign := r.signs[h]
def Road.head (r : Road) (h : SignId) : Head := r.heads[h]

def Road.setSegment (s : SegId) (x : Segment) (r : Road) : Road := { r with segments := r.segments.set s x }
def Road.setPass (g : GateId) (x : Pass) (r : Road) : Road := { r with passes := r.passes.set g x }
def Road.setGate (g : GateId) (x : Gate) (r : Road) : Road := { r with gates := r.gates.set g x }
def Road.setSign (h : SignId) (x : Sign) (r : Road) : Road := { r with signs := r.signs.set h x }
def Road.setHead (h : SignId) (x : Head) (r : Road) : Road := { r with heads := r.heads.set h x }
def Road.setSlot (n : SlotId) (x : Slot) (r : Road) : Road := { r with slots := r.slots.set n x }
def Road.setLinkTo (t : Option Transaction) (r : Road) : Road := { r with link := t }

/-! ## Records of Site -/

def Site.segCfg (e : Site) (s : SegId) : SegmentCfg := e.cfg.segments[s]
def Site.gateCfg (e : Site) (g : GateId) : GateCfg := e.cfg.gates[g]
def Site.signCfg (e : Site) (h : SignId) : SignCfg := e.cfg.signs[h]
def Site.tbCfg (e : Site) (t : TbId) : TimebaseCfg := e.cfg.timebases[t]
def Site.chanCfg (e : Site) (c : ChanId) : ChannelCfg := e.cfg.channels[c]
def Site.stationCfg (e : Site) (w : StationId) : StationCfg := e.cfg.stations[w]
def Site.trigCfg (e : Site) (k : TrigId) : TriggerCfg := e.cfg.triggers[k]
def Site.pathCfg (e : Site) (p : PathId) : PathCfg := e.cfg.paths[p]
def Site.entryCfg (e : Site) (n : EntryId) : ScheduleCfg := e.cfg.entries[n]

def Site.hold (e : Site) (s : SegId) : HoldSet := e.holds[s]
def Site.chan (e : Site) (c : ChanId) : Channel := e.channels[c]
def Site.station (e : Site) (w : StationId) : Station := e.stations[w]
def Site.trigger (e : Site) (k : TrigId) : Trigger := e.triggers[k]
def Site.path (e : Site) (p : PathId) : Path := e.paths[p]
def Site.entry (e : Site) (n : EntryId) : SchedState := e.entries[n]

def Site.setHold (s : SegId) (x : HoldSet) (e : Site) : Site := { e with holds := e.holds.set s x }
def Site.setChan (c : ChanId) (x : Channel) (e : Site) : Site := { e with channels := e.channels.set c x }
def Site.setStation (w : StationId) (x : Station) (e : Site) : Site := { e with stations := e.stations.set w x }
def Site.setTrigger (k : TrigId) (x : Trigger) (e : Site) : Site := { e with triggers := e.triggers.set k x }
def Site.setPath (p : PathId) (x : Path) (e : Site) : Site := { e with paths := e.paths.set p x }
def Site.setEntry (n : EntryId) (x : SchedState) (e : Site) : Site := { e with entries := e.entries.set n x }

/-- The part is RUNNING (R178). -/
def Site.running (e : Site) : Bool := e.phase == .running

/-! ## The two parts of a state -/

def State.setSite (e : Site) (s : State) : State := { s with site := e }
def State.setRoad (r : Road) (s : State) : State := { s with road := r }
def State.mapSite (f : Site → Site) (s : State) : State := { s with site := f s.site }

/-- A reaction of segments, gates, signs or link, under the site as it stands. -/
def State.react (f : Site → Road → Road) (s : State) : State := { s with road := f s.site s.road }

/-- The moment at which a timer expires has come, if it had not yet (log 3). -/
def State.reach (t : Option Nat) (s : State) : State :=
  s.mapSite fun e => { e with now := max e.now (t.getD e.now) }

/-! ## Sets -/

/-- Whether a set of signs holds a sign. -/
def hasSign (set : SignSet) (h : SignId) : Bool := set.getLsbD h
/-- Whether a set of segments holds a segment. -/
def hasSeg (set : SegSet) (s : SegId) : Bool := set.getLsbD s
/-- The signs of a set in address order (R130). -/
def signsOf (set : SignSet) : List SignId := (List.finRange 16).filter (hasSign set)
/-- The segments of a set in number order. -/
def segsOf (set : SegSet) : List SegId := (List.finRange 6).filter (hasSeg set)
/-- The set of the signs that satisfy a test. -/
def signSetOf (p : SignId → Bool) : SignSet :=
  (List.finRange 16).foldl (fun acc h => if p h then acc ||| (1#16 <<< h.val) else acc) 0#16
/-- The set of the segments that satisfy a test. -/
def segSetOf (p : SegId → Bool) : SegSet :=
  (List.finRange 6).foldl (fun acc s => if p s then acc ||| (1#6 <<< s.val) else acc) 0#6

/-! ## Hold sets (R5) -/

/-- Whether the set holds a source. -/
def HoldSet.has (x : HoldSet) : Hold → Bool
  | .trigger k => x.triggers[k]
  | .path p => x.paths[p]
  | .hazard p => x.hazards[p]
  | .schedule e => x.schedules[e]
  | .operator => x.operator
  | .restart => x.restart

/-- The set with one source in it, or not in it. -/
def HoldSet.put (x : HoldSet) (h : Hold) (b : Bool) : HoldSet :=
  match h with
  | .trigger k => { x with triggers := x.triggers.set k b }
  | .path p => { x with paths := x.paths.set p b }
  | .hazard p => { x with hazards := x.hazards.set p b }
  | .schedule e => { x with schedules := x.schedules.set e b }
  | .operator => { x with operator := b }
  | .restart => { x with restart := b }

/-- The set is empty. -/
def HoldSet.isEmpty (x : HoldSet) : Bool := decide (x = {})

/-- The set contains an avalanche hold, a hold of kind PATH (The Hold Set). -/
def HoldSet.avalanche (x : HoldSet) : Bool := (List.finRange 8).any fun p => x.paths[p]

/-- An avalanche hold is a hold of kind PATH. -/
def Hold.isAvalanche : Hold → Bool
  | .path _ => true
  | _ => false

/-! ## Reports (R185, R187) -/

/-- Class of a report, fixed by its kind (each chapter's reports table). -/
def ReportKind.cls : ReportKind → ReportClass
  | .start | .storeFault | .supplyStage | .reopenBlocked | .passCancelled | .gateTripped | .gateObstructed
  | .gateDisplaced | .sensorFault | .pathSuspect | .pathUnconfirmed | .triplineFoundBroken | .pathDegraded
  | .claimDisplaced | .claimRefused | .templateEmpty | .templateBad | .headLinkLost | .headStalled
  | .loadAbandoned | .loadUnconfirmed | .headFlags => .alert
  | .clockSet | .scheduleState | .segmentState | .triggerActive | .triggerCleared | .pathCleared | .hazardDeclared
  | .headLinkState => .notice
  | .noticeExpired | .segmentUnguarded | .gateFault | .gateObstructedAvalanche | .pathReleased | .pathBlind => .urgent
  | .storeDone | .passEnded | .sensorRestored | .triplineRestored | .pathCoverageRestored | .headRestarted => .info

/-- Rank of a report's class. -/
def Report.rank (x : Report) : Nat := x.kind.cls.rank

/-- Rank of the lowest class present in a queue. -/
def lowestRank (l : List Report) : Nat := l.foldl (fun m x => min m x.rank) 3

/-- The most reports the queue holds (R185). -/
def reportCapacity : Nat := 48

/-- ATTN is asserted while a report at or above the attention level is queued, and never while held or LOADING (R187,
R178). -/
def attnOf (e : Site) (l : List Report) : Bool := e.running && l.any fun x => e.cfg.attention.rank ≤ x.rank

/-- The evaluation of ATTN (R187). -/
def Road.evalAttn (e : Site) (r : Road) : Road := { r with attn := attnOf e r.reports }

/-- A report arrives at the queue (R185). -/
def Road.arrive (e : Site) (x : Report) (r : Road) : Road :=
  if r.reports.length < reportCapacity then
    ({ r with reports := r.reports ++ [x] }).evalAttn e
  else if lowestRank r.reports < x.rank then
    ({ r with reports := r.reports.eraseP (fun (y : Report) => y.rank == lowestRank r.reports) ++ [x], lost := true }).evalAttn e
  else
    ({ r with lost := true }).evalAttn e

/-- A block queues a report, with the clock as its timestamp (Conventions, "Timestamps"). -/
def Road.report (e : Site) (k : ReportKind) (subject : Nat) (v : ReportValue) (r : Road) : Road :=
  r.arrive e { kind := k, subject := subject, value := v, stamp := e.clock }

/-- A block queues a report. -/
def State.report (k : ReportKind) (subject : Nat) (v : ReportValue) (s : State) : State :=
  s.react fun e r => r.report e k subject v

/-! ## Signals inside one event -/

/-- What gates, signs and link hand to the Segment Controller: the entry of a gate into UP or DOWN, the entry of a gate
into FAULTED, and a change of a sign's link state or confirmed claim (R37, R46, R143, R158). -/
inductive Signal | gateAt (g : GateId) (d : Dir) | gateFaulted (g : GateId) | signChanged (h : SignId)
  deriving DecidableEq, Repr

/-- What the Segment Controller does with a signal. -/
abbrev Listener := Signal → Road → Road

end Sys2Proof.Machine
end

