-- ==== Sys2Proof/Machine/Operands.lean ====
section
/-! DEFINITION. The operands of requests: indexes, value checks and clamping, from the fields on the line to the record
that is stored. Each record function is none where the request is refused with BAD_VALUE. -/

namespace Sys2Proof.Machine

/-- A number from 1 as the index of an object. -/
def index1 (k : Nat) (n : Nat) : Option (Fin k) := if h : 1 ≤ n ∧ n ≤ k then some ⟨n - 1, by omega⟩ else none

/-- A number from 0 as the index of an object. -/
def index0 (k : Nat) (n : Nat) : Option (Fin k) := if h : n < k then some ⟨n, h⟩ else none

/-- A template number 0 to 96. -/
def templateNo (n : Nat) : Option TemplateNo := index0 97 n

/-- An index that may be none: outer none when the value is neither (R66, R100). -/
def maybeIndex (k : Nat) : MaybeIndex → Option (Option (Fin k))
  | .absent => some none
  | .num n => (index0 k n).map some

/-- The stored segment record of a request (R3). -/
def segmentOf (q : SegmentReq) : Option SegmentCfg :=
  match q.enabled, q.reopenMode, templateNo q.closureTemplate with
  | some en, some mode, some t =>
    if t = 0 then none
    else some { enabled := en, noticeSet := q.noticeSet, closureTemplate := t, reopenMode := mode
                noticeLimit := clampNat 30 900 q.noticeLimit, sweepTime := clampNat 0 3600 q.sweepTime }
  | _, _, _ => none

/-- The boundary is an end of the segment: boundary s - 1 or s for segment s (R28). -/
def isEnd (b : Fin 7) (s : SegId) : Bool := b.val == s.val || b.val == s.val + 1

/-- The stored gate record of a request (R28). -/
def gateOf (q : GateReq) : Option GateCfg :=
  match q.enabled, q.presenceUsed, index0 7 q.boundary, index1 6 q.guarded with
  | some en, some pr, some b, some s =>
    if isEnd b s then
      some { enabled := en, boundary := b, guarded := s, presenceUsed := pr
             travelLimit := clampNat 5 120 q.travelLimit, startDuty := clampNat 20 100 q.startDuty
             runDuty := clampNat 20 100 q.runDuty, reversalPause := clampNat 200 2000 q.reversalPause
             retries := clampNat 0 3 q.retries }
    else none
  | _, _, _, _ => none

/-- The stored sign record of a request (R129). -/
def signOf (q : SignReq) : Option SignCfg :=
  match q.enabled, templateNo q.standing with
  | some en, some t => some { enabled := en, maxBrightness := clampNat 10 100 q.maxBrightness, standing := t }
  | _, _ => none

/-- The stored timebase record of a request: FLASH only for T3 at 125 kHz (R51). -/
def timebaseOf (t : TbId) (q : TimebaseReq) : Option TimebaseCfg :=
  match q.rate, q.mode with
  | some r, some m => if m = .flash && !(t == 3 && r == .khz125) then none else some { rate := r, mode := m }
  | _, _ => none

/-- The stored channel record of a request (R56). -/
def channelOf (q : ChannelReq) : Option ChannelCfg :=
  match q.mode, q.edges, index0 4 q.timebase, q.inverted with
  | some m, some n, some t, some i => some { mode := m, edges := n, timebase := t, inverted := i }
  | _, _, _, _ => none

/-- A calibration pair, clamped (R67, R171). -/
def calOf (c : Calibration) : Calibration := { lo := clampInt (-9999) 9999 c.lo, hi := clampInt (-9999) 9999 c.hi }

/-- No analog input is named twice (R67). -/
def inputsDistinct (c : StationCfg) : Bool :=
  let l := c.airInput.toList ++ c.surfInput.toList ++ c.rhInput.toList
  decide l.Nodup

/-- The stored station record of a request (R67). -/
def stationOf (q : StationReq) : Option StationCfg :=
  match maybeIndex 9 q.airInput, maybeIndex 9 q.surfInput, maybeIndex 9 q.rhInput, maybeIndex 12 q.wind with
  | some a, some s, some r, some w =>
    let c : StationCfg :=
      { airInput := a, airCal := calOf q.airCal, surfInput := s, surfCal := calOf q.surfCal, rhInput := r
        rhCal := calOf q.rhCal, wind := w, k := clampNat 100 2000 q.k }
    if inputsDistinct c then some c else none
  | _, _, _, _ => none

/-- Range of a quantity (R81, R88). -/
def quantRange : Quant → Int × Int
  | .station _ .air | .station _ .surf | .station _ .dew => (-500, 500)
  | .station _ .rh => (0, 1000)
  | .station _ .frost => (-999, 999)
  | .station _ .wind | .station _ .gust => (0, 750)
  | .supply => (0, 3000)

/-- The clear level lies strictly on the far side of the set level (R88). -/
def levelsOrdered (r : Relation) (setLevel clearLevel : Int) : Bool :=
  match r with
  | .above => decide (clearLevel < setLevel)
  | .below => decide (setLevel < clearLevel)

/-- A set of segments on the line, of which the members 1 to 6 are kept (log 11). -/
def segSetOfWord (w : BitVec 16) : SegSet := w.setWidth 6

/-- The stored trigger record of a request (R88). -/
def triggerOf (q : TriggerReq) : Option TriggerCfg :=
  match q.enabled, q.source, q.relation, q.reason, templateNo q.template with
  | some en, some src, some rel, some why, some t =>
    let x := clampInt (quantRange src).1 (quantRange src).2 q.setLevel
    let y := clampInt (quantRange src).1 (quantRange src).2 q.clearLevel
    if levelsOrdered rel x y then
      some { enabled := en, source := src, relation := rel, setLevel := x, clearLevel := y
             setCount := clampNat 1 60 q.setCount, clearCount := clampNat 1 60 q.clearCount, reason := why
             segments := segSetOfWord q.segments, template := t, signs := q.signs }
    else none
  | _, _, _, _, _ => none

/-- A detector of a path request; the outer none marks a value outside its field (R101; log 21). -/
def detectorOf (q : DetectorReq) : Option (Option Detector) :=
  match q.chan with
  | .absent => some none
  | .num n =>
    match index0 12 n, q.kind with
    | some c, some k =>
      some (some { chan := c, kind := k, debounce := clampNat 200 5000 q.debounce
                   threshold := clampNat 1 255 q.threshold, window := clampNat 1 60 q.window })
    | _, _ => none

/-- Two detectors of one path name different channels, and BOTH has two (R101). -/
def detectorsFit (d1 : Detector) (d2 : Option Detector) (m : DetMode) : Bool :=
  match d2, m with
  | none, .any => true
  | none, .both => false
  | some d, _ => d.chan != d1.chan

/-- The stored path record of a request (R101). -/
def pathOf (q : PathReq) : Option PathCfg :=
  match q.enabled, detectorOf q.det1, detectorOf q.det2, q.mode, index1 6 q.crossing, templateNo q.avalancheTemplate,
      templateNo q.hazardTemplate, q.beaconEnabled, q.beaconPhase with
  | some en, some (some d1), some d2, some m, some s, some ta, some th, some be, some ph =>
    if detectorsFit d1 d2 m then
      some { enabled := en, det1 := d1, det2 := d2, mode := m, confirmWindow := clampNat 5 300 q.confirmWindow
             crossing := s, signs := q.signs, avalancheTemplate := ta, hazardTemplate := th, beaconEnabled := be
             beaconPhase := ph }
    else none
  | _, _, _, _, _, _, _, _, _ => none

/-- The times of a schedule entry fit its kind (R122). -/
def timesFit (k : SchedKind) (closeTime openTime : Nat) : Bool :=
  match k with
  | .daily => decide (closeTime < 86400) && decide (openTime < 86400) && openTime != closeTime
  | .once => decide (closeTime < openTime)

/-- The stored schedule entry of a request (R122). -/
def scheduleOf (q : ScheduleReq) : Option ScheduleCfg :=
  match q.enabled, q.kind, templateNo q.template with
  | some en, some k, some t =>
    if timesFit k q.closeTime q.openTime then
      some { enabled := en, kind := k, closeTime := q.closeTime, openTime := q.openTime
             lead := clampNat 0 86399 q.lead, segments := segSetOfWord q.segments, template := t, signs := q.signs }
    else none
  | _, _, _ => none

/-- Thresholds in the order PUT_SUPPLY requires (R171). -/
def thresholdsOrdered (c : SupplyCfg) : Bool :=
  decide (c.resEnter < c.resLeave) && decide (c.resLeave ≤ c.ecoEnter) && decide (c.ecoEnter < c.ecoLeave)

/-- The stored supply record of a request (R171). -/
def supplyOf (q : SupplyCfg) : Option SupplyCfg :=
  let c : SupplyCfg :=
    { ecoEnter := clampInt 0 3000 q.ecoEnter, ecoLeave := clampInt 0 3000 q.ecoLeave
      resEnter := clampInt 0 3000 q.resEnter, resLeave := clampInt 0 3000 q.resLeave, cal := calOf q.cal }
  if thresholdsOrdered c then some c else none

end Sys2Proof.Machine
end

