-- ==== Sys2Proof/Machine/Cabinet.lean ====
section
/-! DEFINITION. The Cabinet Port: taking a request, the transmit list, delivery of reports, and the sending of replies
(R181, R182, R186). -/

namespace Sys2Proof.Machine

/-- What a request's own checks and effect come to: a refusal with its code, which changes nothing, or the state it
leaves with the content of its OK reply. -/
inductive Verdict
  | refuse (code : ResultCode) (body : ReplyBody := .none)
  | done (s : State) (body : ReplyBody := .none) (restarts : Bool := false)
  deriving DecidableEq, Repr

/-- The check of an index (BAD_INDEX on failure). -/
def withIndex {α : Type} (o : Option α) (f : α → Verdict) : Verdict :=
  match o with
  | some a => f a
  | none => .refuse .badIndex

/-- The check of a record's values (BAD_VALUE on failure). -/
def withValue {α : Type} (o : Option α) (f : α → Verdict) : Verdict :=
  match o with
  | some a => f a
  | none => .refuse .badValue

/-- One further check. -/
def require (b : Bool) (code : ResultCode) (v : Verdict) : Verdict := if b then v else .refuse code

/-- The BUSY refusal of a configuration write or store request while a store operation is in flight (R168). -/
def storeFree (s : State) (v : Verdict) : Verdict := require s.site.storeOp.isNone .busy v

/-- The most replies the transmit list holds (R181). -/
def transmitCapacity : Nat := 4

/-- A reply joins the transmit list (R181). -/
def Site.send (x : Reply) (e : Site) : Site := { e with tx := e.tx ++ [x] }

/-- The reply to a request that has been taken: its request is pending from now on (R181). -/
def State.answer (kind tag : Byte) (code : ResultCode) (body : ReplyBody) (restarts : Bool) (s : State) : State :=
  s.mapSite fun e => { e.send { kind := kind, tag := tag, result := code, body := body, restarts := restarts } with
    requestPending := true }

/-- A frame has completed: the receiver is in HUNT (R180). -/
def State.frameEnded (s : State) : State := s.mapSite fun e => { e with rx := .hunt }

/-- The reply a verdict makes. -/
def State.conclude (kind tag : Byte) (v : Verdict) (s : State) : State :=
  match v with
  | .refuse c b => s.answer kind tag c b false
  | .done s' b r => s'.answer kind tag .ok b r

/-- The checks of a request that has been taken, in the order of R181: RUNNING (unless it is answered in LOADING), body
length, its own checks. -/
def judge {α : Type} (early : Bool) (body : Body α) (act : α → State → Verdict) (s : State) : Verdict :=
  if !(s.site.running || early) then .refuse .busy
  else
    match body with
    | .misfit => .refuse .badLength
    | .fits a => act a s

/-- A complete frame is handled (R181): not at all while held, discarded with the transmit list full, answered BUSY with a
request pending, and otherwise taken. The reply that is being sent counts among the four of the list (DESIGN CHOICE, log 45). -/
def State.takeRequest {α : Type} (kind tag : Byte) (early : Bool) (body : Body α) (act : α → State → Verdict)
    (s : State) : State :=
  if s.site.phase = .held then s
  else
    let s0 := s.frameEnded
    if transmitCapacity ≤ s0.site.tx.length then s0
    else if s0.site.requestPending then
      s0.mapSite (Site.send { kind := kind, tag := tag, result := .busy, answers := false })
    else s0.conclude kind tag (judge early body act s0)

/-! ## Delivery of reports (R186) -/

/-- Rank of the highest class present in a queue. -/
def highestRank (l : List Report) : Nat := l.foldl (fun m x => max m x.rank) 0

/-- The oldest report of the highest class present, and the queue without it. -/
def pickReport (l : List Report) : Option (Report × List Report) :=
  (l.find? fun (x : Report) => x.rank == highestRank l).map fun x =>
    (x, l.eraseP fun (y : Report) => y.rank == highestRank l)

/-- Up to n reports in the order of choice, and the queue that is left. -/
def pickReports : Nat → List Report → List Report × List Report
  | 0, l => ([], l)
  | n + 1, l =>
    match pickReport l with
    | some (x, rest) =>
      let y := pickReports n rest
      (x :: y.1, y.2)
    | none => ([], l)

/-- FETCH_REPORTS removes what it delivers, clears the lost-reports flag and evaluates ATTN (R186, R187). -/
def Road.fetched (e : Site) (r : Road) : Road :=
  ({ r with reports := (pickReports 8 r.reports).2, lost := false }).evalAttn e

end Sys2Proof.Machine
end

