-- ==== Sys2Proof/Machine/Gates.lean ====
section
/-! DEFINITION. The Gate Drive Unit: rest states, the drive permit queue and its arbiter, targets, motion and its ends
(R26 to R48), as reactions of Road. The entries into UP, DOWN and FAULTED are handed to the Segment Controller
through a listener. -/

namespace Sys2Proof.Machine

/-! ## The state of one gate -/

/-- What the two limits show (R29). -/
inductive Rest | up | down | unknown | conflict
  deriving DecidableEq, Repr

/-- Rest state derived from the limits (R29). -/
def Gate.rest (x : Gate) : Rest :=
  match x.upLimit, x.downLimit with
  | true, false => .up
  | false, true => .down
  | false, false => .unknown
  | true, true => .conflict

/-- The state of a gate that is not enabled follows its limits (R27). -/
def Rest.followed : Rest → GateState
  | .up => .up
  | .down => .down
  | .unknown | .conflict => .unknown

/-- The rest state at a limit. -/
def Dir.restState : Dir → GateState
  | .up => .up
  | .down => .down

/-- The state queued toward a direction (R31). -/
def Dir.waitState : Dir → GateState
  | .up => .waitRaise
  | .down => .waitLower

/-- The state in motion toward a direction (R34). -/
def Dir.moveState : Dir → GateState
  | .up => .raising
  | .down => .lowering

/-- The level of the limit toward a direction. -/
def Gate.limit (x : Gate) : Dir → Bool
  | .up => x.upLimit
  | .down => x.downLimit

/-- Bridge off, no permit, every timer stopped. -/
def Gate.stopped (x : Gate) : Gate :=
  { x with permit := false, duty := 0, driven := 0, dutyAt := 0, travelTimer := none, pauseTimer := none, holdOffTimer := none,
           retryTimer := none, displaceTimer := none, rampTimer := none }

/-- The rest states, in which a record may be written (Gate States). -/
def GateState.atRest : GateState → Bool
  | .up | .down | .unknown | .faulted => true
  | _ => false

/-- The states in which a bridge side is driven (R35). -/
def GateState.moving : GateState → Bool
  | .lowering | .raising => true
  | _ => false

/-- The number of the PWM period that holds a moment: a period is 62.5 µs, 125 half microseconds (R35; log 33). -/
def pwmPeriod (now : Nat) : Nat := (2 * now + Config.pwmPhase) / 125

/-- The duty in force (R35): that of the buffer from the first period that starts after the write, and until then the one
the period in progress began with. -/
def Gate.inForce (now : Nat) (x : Gate) : Nat := if pwmPeriod x.dutyAt < pwmPeriod now then x.duty else x.driven

/-- A new duty is written to the buffer (R35, R36). -/
def Gate.writeDuty (now d : Nat) (x : Gate) : Gate := { x with duty := d, driven := x.inForce now, dutyAt := now }

/-- Counts of the 250 of a period that a duty drives (R35). -/
def pwmCounts (duty : Nat) : Nat := nearest (250 * duty) 100

/-- Bridge outputs of a gate (R35): counts of 250 driven on side A, which lowers, and on side B, which raises. -/
def Gate.bridge (now : Nat) (x : Gate) : Nat × Nat :=
  match x.state with
  | .lowering => (pwmCounts (x.inForce now), 0)
  | .raising => (0, pwmCounts (x.inForce now))
  | _ => (0, 0)

/-- The presence input stops lowering: it is used and active (R40). -/
def Site.obstructed (e : Site) (r : Road) (g : GateId) : Bool := (e.gateCfg g).presenceUsed && (r.gate g).presence

/-- A change of one gate's runtime fields. -/
def Road.onGate (g : GateId) (f : Gate → Gate) (r : Road) : Road := r.setGate g (f (r.gate g))

/-- The gate's entry, if any, leaves the permit queue; the entries behind keep their order (R31). -/
def Road.leaveQueue (g : GateId) (r : Road) : Road := { r with queue := r.queue.filter (· ≠ g) }

/-- The gate joins the queue at the end, to move in a direction (R31). -/
def joinQueue (g : GateId) (d : Dir) (r : Road) : Road :=
  let r1 := (r.leaveQueue g).onGate g fun x => { x.stopped with state := d.waitState }
  { r1 with queue := r1.queue ++ [g] }

/-- The gate enters UP or DOWN: out of the queue, bridge off, permit released; the Segment Controller receives the
entry (R37). -/
def enterRest (tell : Listener) (g : GateId) (d : Dir) (r : Road) : Road :=
  tell (.gateAt g d) ((r.leaveQueue g).onGate g fun x => { x.stopped with state := d.restState })

/-- The gate is set FAULTED and its report queued (R46), before anyone is told. -/
def setFaulted (e : Site) (g : GateId) (c : FaultCause) (r : Road) : Road :=
  ((r.leaveQueue g).onGate g fun x => { x.stopped with state := .faulted, fault := some c }).report e .gateFault
    (g.val + 1) (.fault c)

/-- The gate enters FAULTED; the Segment Controller receives the entry (R46), after its GATE_FAULT report (DEDUCED, log 44) and
before the arbiter evaluates (DESIGN CHOICE, log 43). -/
def enterFault (e : Site) (tell : Listener) (g : GateId) (c : FaultCause) (r : Road) : Road :=
  tell (.gateFaulted g) (setFaulted e g c r)

/-- The gate derives its rest state, stays in it if it matches the target, and otherwise joins the queue toward the
target (R30, R43, R47). -/
def restOrQueue (e : Site) (tell : Listener) (g : GateId) (r : Road) : Road :=
  match (r.gate g).rest, (r.gate g).target with
  | .conflict, _ => enterFault e tell g .limitConflict r
  | .up, some .up => enterRest tell g .up r
  | .down, some .down => enterRest tell g .down r
  | _, some d => joinQueue g d r
  | rest, none => (r.leaveQueue g).onGate g fun x => { x.stopped with state := rest.followed }

/-! ## Motion -/

/-- The gate is tripped (R42). -/
def tripGate (e : Site) (g : GateId) (r : Road) : Road :=
  (r.onGate g fun x => { x.stopped with state := .tripped, retryTimer := some (e.now + sec 5) }).report e .gateTripped
    (g.val + 1) (.number (r.gate g).retryCount)

/-- A motion starts, with the permit just granted or the one kept through a pause: full travel timer, start duty, fresh
ramp; an active driver-trip input trips it at once (R34, R39). -/
def startMotion (e : Site) (g : GateId) (d : Dir) (permit : Bool) (r : Road) : Road :=
  let cfg := e.gateCfg g
  let r1 := (r.leaveQueue g).onGate g fun x =>
    { x.stopped.writeDuty e.now cfg.startDuty with
      state := d.moveState, permit := permit, travelTimer := some (e.now + sec cfg.travelLimit)
      rampTimer := if cfg.startDuty = cfg.runDuty then none else some (e.now + ms 100) }
  if (r1.gate g).trip then tripGate e g r1 else r1

/-- The gate enters BLOCKED and queues its report (R40). The hold-off timer runs while the input is inactive (R41). -/
def enterBlocked (e : Site) (g : GateId) (r : Road) : Road :=
  let s := (e.gateCfg g).guarded
  let k : ReportKind := if (e.hold s).avalanche then .gateObstructedAvalanche else .gateObstructed
  (r.onGate g fun x =>
    { x.stopped with state := .blocked, holdOffTimer := if x.presence then none else some (e.now + sec 3) }).report e k
    (g.val + 1) (.segment s)

/-- Duty after one ramp step: 5 points toward the run duty, without passing it (R36). -/
def rampToward (duty run : Nat) : Nat := if duty < run then min run (duty + 5) else max run (duty - 5)

/-! ## The arbiter -/

/-- Number of gates that hold permits. -/
def Road.holders (r : Road) : Nat := (List.finRange 8).countP fun g => (r.gate g).permit

/-- Permit count of a supply stage (R32). -/
def Stage.permits : Stage → Nat
  | .normal => 3
  | .economy => 2
  | .reserve => 1

/-- The arbiter's choice (R32): the first gate waiting to lower that is not obstructed, else the first waiting to
raise. -/
def chooseGate (e : Site) (r : Road) : Option GateId :=
  match r.queue.find? (fun g => (r.gate g).state == .waitLower && !e.obstructed r g) with
  | some g => some g
  | none => r.queue.find? fun g => (r.gate g).state == .waitRaise

/-- A grant (R34): the gate leaves the queue; at its limit it enters the rest state and the permit is released at
once, otherwise it starts its motion. -/
def grant (e : Site) (tell : Listener) (g : GateId) (r : Road) : Road :=
  let d : Dir := if (r.gate g).state = .waitLower then .down else .up
  match (r.gate g).rest, d with
  | .conflict, _ => enterFault e tell g .limitConflict r
  | .up, .up => enterRest tell g .up r
  | .down, .down => enterRest tell g .down r
  | _, _ => startMotion e g d true r

/-- The arbiter repeats its choice while the holders remain below the count and a choosable gate remains (R32). -/
def arbitrate (e : Site) (tell : Listener) : Nat → Road → Road
  | 0, r => r
  | n + 1, r =>
    if r.holders < e.stage.permits then
      match chooseGate e r with
      | some g => arbitrate e tell n (grant e tell g r)
      | none => r
    else r

/-- One evaluation of the arbiter. Each grant takes a gate out of a queue of at most eight (log 16). -/
def permits (e : Site) (tell : Listener) (r : Road) : Road := arbitrate e tell 16 r

/-! ## Targets -/

/-- A gate in motion is reversed: bridge off, permit kept, pause timer started (R39). -/
def pauseGate (e : Site) (g : GateId) (r : Road) : Road :=
  r.onGate g fun x =>
    { x.stopped with
      state := .paused, permit := x.permit, pauseTimer := some (e.now + ms (e.gateCfg g).reversalPause) }

/-- A target is set on a gate (R30). The arbiter evaluates afterwards (log 13). -/
def setTarget (e : Site) (tell : Listener) (g : GateId) (d : Dir) (r : Road) : Road :=
  if (r.gate g).target = some d then r
  else
    let r1 := r.onGate g fun x => { x with target := some d }
    match (r.gate g).state with
    | .up => if d = .up then r1 else joinQueue g d r1
    | .down => if d = .down then r1 else joinQueue g d r1
    | .unknown => joinQueue g d r1
    | .waitLower | .waitRaise => restOrQueue e tell g r1
    | .lowering | .raising => pauseGate e g r1
    | .blocked => if d = .up then restOrQueue e tell g r1 else r1
    | .paused | .tripped | .faulted => r1

/-! ## Events of a gate

Each is what the named row does to Road while the part is RUNNING. -/

/-- A gate arrives at a limit: retry count 0, rest state, permit released (R29, R37, R39). The Segment Controller reacts to the
arrival before the arbiter evaluates (DESIGN CHOICE, log 43). -/
def arriveAt (e : Site) (tell : Listener) (g : GateId) (d : Dir) (r : Road) : Road :=
  permits e tell (enterRest tell g d (r.onGate g fun x => { x with retryCount := 0 }))

/-- A limit is released or becomes active on a gate at rest at that limit with that target (R45). -/
def watchRest (e : Site) (g : GateId) (d : Dir) (before : Bool) (r : Road) : Road :=
  r.onGate g fun x =>
    if x.target = some d then
      { x with displaceTimer :=
          if x.limit d then none else if before then some (e.now + sec 1) else x.displaceTimer }
    else x

/-- A change of a gate's limit switches (R27, R29, R37, R44, R45). -/
def limitChange (e : Site) (tell : Listener) (g : GateId) (up down : Bool) (r : Road) : Road :=
  let old := r.gate g
  if old.upLimit = up && old.downLimit = down then r
  else
    let r1 := r.onGate g fun x => { x with upLimit := up, downLimit := down }
    if !e.running then r1
    else if !(e.gateCfg g).enabled then r1.onGate g fun x => { x with state := x.rest.followed }
    else if old.state = .faulted then r1
    else if up && down then permits e tell (enterFault e tell g .limitConflict r1)
    else
      let upRises := up && !old.upLimit
      let downRises := down && !old.downLimit
      match old.state, old.target with
      | .lowering, _ => if downRises then arriveAt e tell g .down r1 else r1
      | .raising, _ => if upRises then arriveAt e tell g .up r1 else r1
      | .waitLower, some .down | .blocked, some .down => if downRises then arriveAt e tell g .down r1 else r1
      | .tripped, some .down => if downRises then arriveAt e tell g .down r1 else r1
      | .waitRaise, some .up | .tripped, some .up => if upRises then arriveAt e tell g .up r1 else r1
      | .down, _ => watchRest e g .down old.downLimit r1
      | .up, _ => watchRest e g .up old.upLimit r1
      | _, _ => r1

/-- A change of a gate's presence input (R32, R40, R41). -/
def presenceChanged (e : Site) (tell : Listener) (g : GateId) (level : Bool) (r : Road) : Road :=
  let old := r.gate g
  if old.presence = level then r
  else
    let r1 := r.onGate g fun x => { x with presence := level }
    if !(e.running && (e.gateCfg g).enabled && (e.gateCfg g).presenceUsed) then r1
    else
      match old.state, level with
      | .lowering, true => permits e tell (enterBlocked e g r1)
      | .blocked, true => r1.onGate g fun x => { x with holdOffTimer := none }
      | .blocked, false => r1.onGate g fun x => { x with holdOffTimer := some (e.now + sec 3) }
      | .waitLower, false => permits e tell r1
      | _, _ => r1

/-- The driver-trip input takes a level; active in motion, it trips the gate (R42). -/
def tripInput (e : Site) (tell : Listener) (g : GateId) (level : Bool) (r : Road) : Road :=
  let r1 := r.onGate g fun x => { x with trip := level }
  if e.running && (e.gateCfg g).enabled && level && (r.gate g).state.moving then permits e tell (tripGate e g r1)
  else r1

/-- Travel timer expiry (R38). -/
def travelExpired (e : Site) (tell : Listener) (g : GateId) (r : Road) : Road :=
  if (r.gate g).state.moving && (r.gate g).travelTimer.isSome then
    permits e tell (enterFault e tell g .travelTimeout r)
  else r

/-- Pause timer expiry (R39). -/
def pauseExpired (e : Site) (tell : Listener) (g : GateId) (r : Road) : Road :=
  if (r.gate g).state = .paused && (r.gate g).pauseTimer.isSome then
    match (r.gate g).target with
    | none => r.onGate g fun x => { x with pauseTimer := none }
    | some d =>
      if (r.gate g).limit d then arriveAt e tell g d r
      else if d = .down && e.obstructed r g then permits e tell (enterBlocked e g r)
      else permits e tell (startMotion e g d (r.gate g).permit r)
  else r

/-- Hold-off timer expiry (R41). -/
def holdOffExpired (e : Site) (tell : Listener) (g : GateId) (r : Road) : Road :=
  if (r.gate g).state = .blocked && (r.gate g).holdOffTimer.isSome then permits e tell (joinQueue g .down r) else r

/-- Retry delay expiry (R43). -/
def retryExpired (e : Site) (tell : Listener) (g : GateId) (r : Road) : Road :=
  if (r.gate g).state = .tripped && (r.gate g).retryTimer.isSome then
    if (r.gate g).retryCount < (e.gateCfg g).retries then
      permits e tell (restOrQueue e tell g (r.onGate g fun x => { x with retryCount := x.retryCount + 1 }))
    else enterFault e tell g .driveTrip r
  else r

/-- Displacement timer expiry (R45). -/
def displaceExpired (e : Site) (tell : Listener) (g : GateId) (r : Road) : Road :=
  match (r.gate g).displaceTimer, (r.gate g).state with
  | some _, .down => permits e tell (joinQueue g .down (r.report e .gateDisplaced (g.val + 1) (.limit .down)))
  | some _, .up => permits e tell (joinQueue g .up (r.report e .gateDisplaced (g.val + 1) (.limit .up)))
  | _, _ => r

/-- One ramp step: the buffer is written, and the next step comes 100 ms after this one's moment (R36). -/
def rampStepped (e : Site) (g : GateId) (r : Road) : Road :=
  r.onGate g fun x =>
    if x.state.moving && x.rampTimer.isSome then
      let d := rampToward x.duty (e.gateCfg g).runDuty
      { x.writeDuty e.now d with
        rampTimer := if d = (e.gateCfg g).runDuty then none else x.rampTimer.map (· + ms 100) }
    else x

end Sys2Proof.Machine
end

