-- ==== Sys2Proof/Machine/Link.lean ====
section
/-! DEFINITION. The link arbiter of the Sign Link Master: poll intervals, the start of a POLL or LOAD, and the choice
between them (R149, R159, R160). -/

namespace Sys2Proof.Machine

/-- A change of one sign's fields. -/
def Road.onSign (h : SignId) (f : Sign → Sign) (r : Road) : Road := r.setSign h (f (r.sign h))

/-- A change of one head link record. -/
def Road.onHead (h : SignId) (f : Head → Head) (r : Road) : Road := r.setHead h (f (r.head h))

/-- Poll interval of ONLINE and STALLED heads, in seconds (R159). -/
def Stage.pollInterval : Stage → Nat
  | .normal => 10
  | .economy => 20
  | .reserve => 30

/-- Interval of a link state, in microseconds; none when never polled (R159). -/
def pollEvery (st : Stage) : LinkState → Option Nat
  | .unconfigured => none
  | .probing => some (sec 2)
  | .online | .stalled => some (sec st.pollInterval)
  | .lagging => some (ms 200)
  | .silent => some (sec 60)

/-- The moment at which a head falls due by its state and the stage (R159). -/
def Site.dueAt (e : Site) (x : Head) : Option Nat := (pollEvery e.stage x.link).map (x.lastEnd + ·)

/-- The answer window, 50 ms from the end of the frame (R146; the frame itself takes no time of the model, log 15). -/
def Site.window (e : Site) : Wait := .answer (e.now + ms 50)

/-- A transaction to the head is in progress (R147). -/
def Road.busyWith (r : Road) (h : SignId) : Bool :=
  match r.link with
  | some t => t.head == h && !t.rewritten
  | none => false

/-- A LOAD to the head is in progress. -/
def Road.loading (r : Road) (h : SignId) : Bool :=
  match r.link with
  | some t => t.head == h && !t.rewritten && t.step != .poll
  | none => false

/-- A head may take part in the notice and go on with a LOAD (Head Link States table). -/
def LinkState.answering : LinkState → Bool
  | .online | .lagging => true
  | _ => false

/-- The next page tag advances; from 255 it goes back to 1 (R149). -/
def advanceTag (t : Byte) : Byte := if t = 255#8 then 1#8 else t + 1#8

/-- A POLL begins (R148). -/
def startPoll (e : Site) (h : SignId) (r : Road) : Road :=
  (r.onHead h fun x => { x with due := none }).setLinkTo
    (some { head := h, step := .poll, wait := e.window, toggle := (r.head h).toggle.getD false })

/-- A LOAD begins: the pending page becomes the sent page under the head's next page tag, the NAK count becomes 0, and
COMMAND is sent (R142, R149). A head that was due gives up the moment it fell due here: a LOAD that ends without its
confirmation POLL starts a new interval at its end (DESIGN CHOICE, log 39). -/
def startLoad (e : Site) (h : SignId) (p : Page) (r : Road) : Road :=
  let tag := (r.head h).nextTag
  ((r.onSign h fun x => { x with pending := none, sent := some { page := p, tag := tag } }).onHead h fun x =>
    { x with nextTag := advanceTag tag, naks := 0, due := none }).setLinkTo
    (some { head := h, step := .command, wait := e.window, toggle := (r.head h).toggle.getD false })

/-- A pending page of class AVALANCHE or CLOSURE. -/
def Page.urgent (p : Page) : Bool := p.cls == some .avalanche || p.cls == some .closure

/-- The pending page that may be loaded now: its head is ONLINE (R160). -/
def Road.loadable (r : Road) (h : SignId) : Option PendingPage :=
  if (r.head h).link = .online then (r.sign h).pending else none

/-- Of two candidates with a number, the one with the smaller; the first where they are equal. -/
def earlier (best : Option (SignId × Nat)) (c : SignId × Nat) : Option (SignId × Nat) :=
  match best with
  | none => some c
  | some b => if c.2 < b.2 then some c else some b

/-- The sign with the smallest number, the lowest address first among equals. -/
def earliest (f : SignId → Option Nat) : Option SignId :=
  ((List.finRange 16).foldl (fun best h =>
    match f h with
    | some n => earlier best (h, n)
    | none => best) none).map Prod.fst

/-- Items 2 and 3 of the arbiter's order (R160): an AVALANCHE or CLOSURE page at the lowest address, else the oldest
pending page. -/
def chooseLoad (r : Road) : Option SignId :=
  match (List.finRange 16).find? (fun h => (r.loadable h).any (·.page.urgent)) with
  | some h => some h
  | none => earliest fun h => (r.loadable h).map (·.since)

/-- Item 4 of the arbiter's order (R160): the due POLL that fell due first. -/
def chooseDue (r : Road) : Option SignId := earliest fun h => (r.head h).due

/-- The arbiter chooses when the link is free (R160). -/
def linkArbitrate (e : Site) (r : Road) : Road :=
  if !e.running || r.link.isSome then r
  else
    match chooseLoad r with
    | some h =>
      match (r.sign h).pending with
      | some p => startLoad e h p.page r
      | none => r
    | none =>
      match chooseDue r with
      | some h => startPoll e h r
      | none => r

/-- A head falls due at this moment, if it is not due or in a transaction already (R159). -/
def fallDue (e : Site) (h : SignId) (r : Road) : Road :=
  if (r.head h).due.isSome || r.busyWith h || (r.head h).link = .unconfigured then r
  else r.onHead h fun x => { x with due := some e.now }

end Sys2Proof.Machine
end

