-- ==== Sys2Proof/Machine/Signs.lean ====
section
/-! DEFINITION. The Sign Claim Resolver: claim lists, pages and rendering, pending, sent and confirmed pages
(R130 to R143), and the reading of template slots (R164). -/

namespace Sys2Proof.Machine

/-! ## Claims -/

/-- Number of a claim class; the lower has the higher priority (R131). -/
def ClaimClass.num : ClaimClass → Nat
  | .avalanche => 0
  | .closure => 1
  | .operator => 2
  | .hazard => 3
  | .schedule => 4
  | .advisory => 5

/-- Every claim list holds at most 8 claims (R131). -/
def claimCapacity : Nat := 8

/-- The source has a claim on the list. -/
def hasClaim (src : Source) (l : List Claim) : Bool := l.any (·.source == src)

/-- The list without the source's claim; the claims behind keep their order (R134). -/
def dropClaim (src : Source) (l : List Claim) : List Claim := l.filter (·.source != src)

/-- The claim enters at the front of its class (R131, R132): list position is posting order. -/
def insertClaim (c : Claim) (l : List Claim) : List Claim :=
  l.takeWhile (·.cls.num < c.cls.num) ++ c :: l.dropWhile (·.cls.num < c.cls.num)

/-- What becomes of a list when a claim is posted, with the claim displaced and whether the posting was refused (R132,
R133). -/
def postedList (c : Claim) (l : List Claim) : List Claim × Option Source × Bool :=
  if hasClaim c.source l then (insertClaim c (dropClaim c.source l), none, false)
  else if l.length < claimCapacity then (insertClaim c l, none, false)
  else
    match l.getLast? with
    | some z =>
      if c.cls.num < z.cls.num then (insertClaim c l.dropLast, some z.source, false) else (l, none, true)
    | none => (l, none, true)

/-- The shown claim is the head of the list (R134). -/
def Road.shown (r : Road) (h : SignId) : Option Claim := (r.sign h).claims.head?

/-! ## Fields and text (R136 to R138) -/

/-- The code of a space. -/
def space : Nat := 32

/-- The decimal digits of a number below 1000 as character codes, without leading zeros. -/
def digits (n : Nat) : List Nat :=
  if n < 10 then [48 + n]
  else if n < 100 then [48 + n / 10, 48 + n % 10]
  else [48 + n / 100 % 10, 48 + n / 10 % 10, 48 + n % 10]

/-- Right-aligned in a field of w cells. -/
def rightAlign (w : Nat) (l : List Nat) : List Nat := List.replicate (w - l.length) space ++ l

/-- Position of a kind of station quantity (R81). -/
def kindPos : QKind → Nat
  | .air => 0
  | .surf => 1
  | .rh => 2
  | .dew => 3
  | .frost => 4
  | .wind => 5
  | .gust => 6

/-- Position of a quantity in the table (R81). -/
def quantPos : Quant → Fin 22
  | .station w k => Fin.ofNat 22 (w.val * 7 + kindPos k)
  | .supply => 21

/-- A published quantity. -/
def Site.quantity (e : Site) (q : Quant) : Quantity := e.table[quantPos q]

/-- A temperature in tenths, 5 cells; dashes when not GOOD (R137, R138). -/
def tempCells (q : Quantity) : List Nat :=
  if q.quality = .good then
    let a := q.value.natAbs
    rightAlign 5 ((if q.value < 0 then [45] else []) ++ digits (a / 10) ++ [46, 48 + a % 10])
  else [45, 45, 45, 46, 45]

/-- A wind in km/h, 3 cells; dashes when not GOOD (R83, R137, R138). -/
def windCells (q : Quantity) : List Nat :=
  if q.quality = .good then rightAlign 3 (digits (roundDiv (q.value * 36) 100).toNat) else [45, 45, 45]

/-- A local time of day as hh:mm, or dashes while the clock is UNSET (R137, R138). -/
def timeCells : Option Nat → List Nat
  | some t =>
    let h := t / 3600 % 24
    let m := t / 60 % 60
    [48 + h / 10, 48 + h % 10, 58, 48 + m / 10, 48 + m % 10]
  | none => [45, 45, 58, 45, 45]

/-- Local time of day: (t + zone offset) mod 86,400 (R117). -/
def localDay (zone : Int) (t : Nat) : Nat := (((t : Int) + zone) % 86400).toNat

/-- The local time of day of an entry's close or open time, as the Schedule Unit hands it (R127). -/
def entryTime (e : Site) (n : EntryId) (t : Nat) : Option Nat :=
  match e.clock with
  | none => none
  | some _ =>
    match (e.entryCfg n).kind with
    | .daily => some t
    | .once => some (localDay e.cfg.zone t)

/-- Cells of a field (R137). -/
def fieldCells (e : Site) : Field → List Nat
  | .air w => tempCells (e.quantity (.station w .air))
  | .surf w => tempCells (e.quantity (.station w .surf))
  | .wind w => windCells (e.quantity (.station w .wind))
  | .gust w => windCells (e.quantity (.station w .gust))
  | .close n => timeCells (entryTime e n (e.entryCfg n).closeTime)
  | .open n => timeCells (entryTime e n (e.entryCfg n).openTime)

/-- Cells of an item. -/
def itemCells (e : Site) : Item → List Nat
  | .char c => [c]
  | .field f => fieldCells e f

/-- One line, filled with spaces on the right to 18 cells (R137). -/
def lineCells (e : Site) (l : List Item) : List Nat := (l.flatMap (itemCells e) ++ List.replicate 18 space).take 18

/-- The 54 characters of a template (R136). -/
def templateText (e : Site) (t : Template) : List Nat :=
  lineCells e t.line1 ++ lineCells e t.line2 ++ lineCells e t.line3

/-- The blank page, 54 spaces (R136). -/
def blankText : List Nat := List.replicate 54 space

/-! ## Template slots -/

/-- A template number that is a slot; template 0 is none (R164). -/
def slotOf (n : TemplateNo) : Option SlotId := if h : n.val = 0 then none else some ⟨n.val - 1, by omega⟩

/-- The template number of a slot. -/
def slotNumber (n : SlotId) : TemplateNo := ⟨n.val + 1, by omega⟩

/-- The state of a slot. -/
def Slot.kind : Slot → SlotKind
  | .empty => .empty
  | .writing _ => .writing
  | .valid _ _ => .valid
  | .bad => .bad

/-- A slot found WRITING or unreadable becomes BAD with one STORE_FAULT report (R164). -/
def spoilSlot (e : Site) (n : SlotId) (r : Road) : Road :=
  (r.setSlot n .bad).report e .storeFault (n.val + 1) .template

/-- A VALID slot is tested when it is read; one whose check fails is unreadable (R164). -/
def testSlot (e : Site) (n : SlotId) (r : Road) : Road :=
  match r.slots[n] with
  | .valid _ false => spoilSlot e n r
  | _ => r

/-! ## Rendering -/

/-- Stage cap of the brightness (R136). -/
def Stage.cap : Stage → Nat
  | .normal => 100
  | .economy => 60
  | .reserve => 30

/-- The page slot of a sign: the shown claim's template, or the standing template (R140). -/
def pageSlot (e : Site) (r : Road) (h : SignId) : TemplateNo :=
  match r.shown h with
  | some c => c.template
  | none => (e.signCfg h).standing

/-- The page slot is being written (R140 step 1). -/
def slotWriting (r : Road) (n : TemplateNo) : Bool :=
  match slotOf n with
  | some k => (r.slots[k]).kind == .writing
  | none => false

/-- RESERVE blanks advisory and standing pages (R140 step 2). -/
def blankedByStage (e : Site) (shown : Option Claim) : Bool :=
  e.stage == .reserve && (match shown with | some c => c.cls == .advisory | none => true)

/-- The page slot is EMPTY or BAD: reported once for this claim, slot and state (R140 steps 4 and 6). -/
def noteUnusable (e : Site) (h : SignId) (n : TemplateNo) (k : SlotKind) (r : Road) : Road :=
  let u : Unusable := { claim := (r.shown h).map (·.source), slot := n, kind := k }
  if (r.sign h).unusable = some u then r
  else
    (r.onSign h fun x => { x with unusable := some u }).report e
      (if k = .empty then .templateEmpty else .templateBad) (h.val + 1) (.slot n)

/-- Steps 2 to 6 of a rendering (R140): the text and the template used. -/
def chooseText (e : Site) (h : SignId) (r : Road) : Road × List Nat × TemplateNo :=
  let clear := fun (x : Road) => x.onSign h fun y => { y with unusable := none }
  let n := pageSlot e r h
  if blankedByStage e (r.shown h) then (clear r, blankText, 0)
  else
    match slotOf n with
    | none => (clear r, blankText, 0)
    | some k =>
      let r1 := testSlot e k r
      match r1.slots[k] with
      | .valid t _ => (clear r1, templateText e t, n)
      | .writing _ => (r1, blankText, 0)
      | .empty => (noteUnusable e h n .empty r1, blankText, 0)
      | .bad => (noteUnusable e h n .bad r1, blankText, 0)

/-- The page of a sign from its text (R136, R140 step 7). -/
def makePage (e : Site) (h : SignId) (shown : Option Claim) (text : List Nat) (n : TemplateNo) : Page :=
  { text := text, template := n, cls := shown.map (·.cls), claim := shown.map (·.source)
    cap := min (e.signCfg h).maxBrightness e.stage.cap
    flashing := match shown with
      | some c => c.cls == .avalanche || c.cls == .closure
      | none => false }

/-- Pages are compared by text, brightness cap and attribute (R140 step 8). -/
def Page.same (a b : Page) : Bool := a.text == b.text && a.cap == b.cap && a.flashing == b.flashing

/-- A page becomes pending; a newer rendering keeps the age of the page it replaces (R140, R160). -/
def pend (h : SignId) (p : Page) (r : Road) : Road :=
  match (r.sign h).pending with
  | some old => r.onSign h fun x => { x with pending := some { page := p, since := old.since } }
  | none =>
    { r.onSign h fun x => { x with pending := some { page := p, since := r.stamps } } with stamps := r.stamps + 1 }

/-- No page is pending. -/
def unpend (h : SignId) (r : Road) : Road := r.onSign h fun x => { x with pending := none }

/-- The confirmed claim is set; a change of source, class, or to or from none is handed on (R143). -/
def setConfirmed (tell : Listener) (h : SignId) (c : Option Confirmed) (r : Road) : Road :=
  let key := fun (x : Option Confirmed) => x.map fun y => (y.claim, y.cls)
  let r1 := r.onSign h fun x => { x with confirmed := c }
  if key (r.sign h).confirmed = key c then r1 else tell (.signChanged h) r1

/-- The sent page takes the claim, class and template of a page equal to it, and so does a confirmed claim under its tag
(R140 step 8, R143). -/
def relabel (tell : Listener) (h : SignId) (p : Page) (s : SentPage) (r : Road) : Road :=
  if s.page.claim = p.claim ∧ s.page.cls = p.cls then r
  else
    let r1 := r.onSign h fun x =>
      { x with sent := some { s with page := { s.page with claim := p.claim, cls := p.cls, template := p.template } } }
    match (r.sign h).confirmed with
    | some c =>
      if c.tag = s.tag then setConfirmed tell h (some { claim := p.claim, cls := p.cls, tag := c.tag }) r1 else r1
    | none => r1

/-- Step 8 of a rendering, and the arbiter as soon as a page becomes loadable (R140, R142, R160; log 12). -/
def offerPage (e : Site) (tell : Listener) (h : SignId) (forced : Bool) (p : Page) (r : Road) : Road :=
  match (r.sign h).sent with
  | none => linkArbitrate e (pend h p r)
  | some s =>
    if forced || !s.page.same p then linkArbitrate e (pend h p r)
    else relabel tell h p s (unpend h r)

/-- One rendering of a sign (R140), forced or not (R142). Only an enabled sign of a RUNNING part is rendered (R128,
R144). -/
def render (e : Site) (tell : Listener) (h : SignId) (forced : Bool) (r : Road) : Road :=
  if !(e.running && (e.signCfg h).enabled) then r
  else if slotWriting r (pageSlot e r h) then unpend h r
  else
    let x := chooseText e h r
    offerPage e tell h forced (makePage e h (r.shown h) x.2.1 x.2.2) x.1

/-- Every enabled sign is rendered, in address order (R139). -/
def renderAll (e : Site) (tell : Listener) (r : Road) : Road :=
  (List.finRange 16).foldl (fun r h => render e tell h false r) r

/-- Each enabled sign whose page slot is the slot is rendered, in address order (R139, R166). -/
def renderSlot (e : Site) (tell : Listener) (n : TemplateNo) (r : Road) : Road :=
  (List.finRange 16).foldl (fun r h => if pageSlot e r h = n then render e tell h false r else r) r

/-! ## Posting and withdrawing (R130 to R134) -/

/-- A change of a claim list; a change of the shown claim is a rendering event (R134). -/
def withList (e : Site) (tell : Listener) (h : SignId) (f : Road → Road) (r : Road) : Road :=
  let r1 := f r
  if r1.shown h = r.shown h then r1 else render e tell h false r1

/-- A posting (R132, R133). -/
def post (e : Site) (tell : Listener) (h : SignId) (c : Claim) (r : Road) : Road :=
  withList e tell h (fun r =>
    let x := postedList c (r.sign h).claims
    let r1 := r.onSign h fun y => { y with claims := x.1 }
    match x.2.1, x.2.2 with
    | some z, _ => r1.report e .claimDisplaced (h.val + 1) (.source z)
    | none, true => r1.report e .claimRefused (h.val + 1) (.source c.source)
    | none, false => r1) r

/-- A withdrawal (R134). -/
def withdraw (e : Site) (tell : Listener) (h : SignId) (src : Source) (r : Road) : Road :=
  withList e tell h (fun r => r.onSign h fun y => { y with claims := dropClaim src y.claims }) r

/-- One claim posted on each sign of a set, in address order (R130). -/
def postAll (e : Site) (tell : Listener) (set : SignSet) (c : Claim) (r : Road) : Road :=
  (signsOf set).foldl (fun r h => post e tell h c r) r

/-- A source's claim withdrawn from each sign of a set, in address order (R130). -/
def withdrawAll (e : Site) (tell : Listener) (set : SignSet) (src : Source) (r : Road) : Road :=
  (signsOf set).foldl (fun r h => withdraw e tell h src r) r

/-- The signs of a set on which the source's claim is present. -/
def claimedSigns (r : Road) (set : SignSet) (src : Source) : SignSet :=
  signSetOf fun h => hasSign set h && hasClaim src (r.sign h).claims

end Sys2Proof.Machine
end

