-- ==== Sys2Proof/Machine/Segments.lean ====
section
/-! DEFINITION. The Segment Controller: the segment states and their transitions (R6 to R18), service passes (R21,
R22), and what it does with the signals of gates and signs, which ties the reactions together. -/

namespace Sys2Proof.Machine

/-- The guard gates of a segment: enabled gates that name it (R2), in number order. -/
def guards (e : Site) (s : SegId) : List GateId :=
  (List.finRange 8).filter fun g => (e.gateCfg g).enabled && (e.gateCfg g).guarded == s

/-- The guard gates in a state. -/
def guardsIn (e : Site) (s : SegId) (st : GateState) (r : Road) : List GateId :=
  (guards e s).filter fun g => (r.gate g).state == st

/-- The target a segment state calls for (R6). -/
def SegState.target : SegState → Dir
  | .open | .notice | .reopening => .up
  | .clearing | .closed => .down

/-- A change of one segment's runtime fields. -/
def Road.onSegment (s : SegId) (f : Segment → Segment) (r : Road) : Road := r.setSegment s (f (r.segment s))

/-- A change of segment state queues one SEGMENT_STATE report (R6). No rule gives it a place among the reports that the entry
brings about; the model queues it first, with the change of state (DESIGN CHOICE, log 37). -/
def moveSegment (e : Site) (s : SegId) (st : SegState) (r : Road) : Road :=
  (r.onSegment s fun x => { x with state := st }).report e .segmentState (s.val + 1) (.segState st)

/-- The segment issues a target to each of its guard gates, the lowest-numbered first, and the arbiter evaluates (R6,
R31; log 13). -/
def targetGuards (e : Site) (tell : Listener) (s : SegId) (d : Dir) (r : Road) : Road :=
  permits e tell ((guards e s).foldl (fun r g => setTarget e tell g d r) r)

/-! ## Service passes -/

/-- The pass record is active. -/
def Pass.isActive : Pass → Bool
  | .idle => false
  | _ => true

/-- An active pass ends, with its PASS_ENDED report (R22). -/
def endPass (e : Site) (g : GateId) (c : PassEnd) (r : Road) : Road :=
  if (r.pass g).isActive then (r.setPass g .idle).report e .passEnded (g.val + 1) (.passEnd c) else r

/-- A joining avalanche hold cancels each active pass of the segment's gates (R15, R22), in number order (DESIGN CHOICE,
log 41). -/
def cancelPasses (e : Site) (tell : Listener) (s : SegId) (p : PathId) (r : Road) : Road :=
  permits e tell ((guards e s).foldl (fun r g =>
    if (r.pass g).isActive then
      setTarget e tell g .down ((r.setPass g .idle).report e .passCancelled (g.val + 1) (.path p))
    else r) r)

/-- A WAITING pass enters RUNNING when its gate enters UP (R22). -/
def startPass (e : Site) (g : GateId) (r : Road) : Road :=
  match r.pass g with
  | .waiting n => r.setPass g (.running n (e.now + sec n))
  | _ => r

/-! ## Transitions -/

/-- The segment's closure claim (R7). -/
def closureClaim (e : Site) (s : SegId) : Claim :=
  { source := .segment s, cls := .closure, template := (e.segCfg s).closureTemplate }

/-- Entering OPEN (R17): the flags are cleared and the closure claim withdrawn. The SEGMENT_STATE report comes before the reports
that the withdrawal's renderings bring about (DESIGN CHOICE, log 37). -/
def enterOpen (e : Site) (tell : Listener) (s : SegId) (r : Road) : Road :=
  withdrawAll e tell (e.segCfg s).noticeSet (.segment s)
    (moveSegment e s .open (r.onSegment s fun x =>
      { x with noticeTimer := none, sweepTimer := none, unguarded := false, noticeIncomplete := false }))

/-- REOPENING becomes OPEN when every guard gate is UP (R17). -/
def evalOpen (e : Site) (tell : Listener) (s : SegId) (r : Road) : Road :=
  if (r.segment s).state = .reopening && (guards e s).all (fun g => (r.gate g).state == .up) then enterOpen e tell s r
  else r

/-- One report about each gate of a list; the lists are in number order (DESIGN CHOICE, log 41). -/
def reportGates (e : Site) (k : ReportKind) (s : SegId) (l : List GateId) (r : Road) : Road :=
  l.foldl (fun r g => r.report e k (s.val + 1) (.gate g)) r

/-- Entering REOPENING (R17): passes end, every guard gate is targeted UP, and each gate found FAULTED is reported. The
SEGMENT_STATE report of the entry comes before the PASS_ENDED reports (DESIGN CHOICE, log 37), and those come in number order
(DESIGN CHOICE, log 41). -/
def enterReopening (e : Site) (tell : Listener) (s : SegId) (r : Road) : Road :=
  let faulted := guardsIn e s .faulted r
  let r1 := moveSegment e s .reopening (r.onSegment s fun x => { x with noticeTimer := none, sweepTimer := none })
  let r2 := (guards e s).foldl (fun r g => endPass e g .reopening r) r1
  evalOpen e tell s (reportGates e .reopenBlocked s faulted (targetGuards e tell s .up r2))

/-- A CLOSED segment with an empty hold set reopens by itself in AUTOMATIC mode (R15). -/
def evalReopen (e : Site) (tell : Listener) (s : SegId) (r : Road) : Road :=
  if (r.segment s).state = .closed && (e.hold s).isEmpty && (e.segCfg s).reopenMode = .automatic then
    enterReopening e tell s r
  else r

/-- Entering CLOSED (R13, R15). -/
def enterClosed (e : Site) (tell : Listener) (s : SegId) (r : Road) : Road :=
  evalReopen e tell s (targetGuards e tell s .down (moveSegment e s .closed r))

/-- CLEARING becomes CLOSED when the sweep timer has expired and every guard gate is DOWN or FAULTED (R13). -/
def evalClosed (e : Site) (tell : Listener) (s : SegId) (r : Road) : Road :=
  if (r.segment s).state = .clearing && (r.segment s).sweepTimer.isNone &&
      (guards e s).all (fun g => (r.gate g).state == .down || (r.gate g).state == .faulted) then
    enterClosed e tell s r
  else r

/-- UNGUARDED is set, with one SEGMENT_UNGUARDED report for each gate of a list (R14). -/
def markUnguarded (e : Site) (s : SegId) (l : List GateId) (r : Road) : Road :=
  if l.isEmpty then r else reportGates e .segmentUnguarded s l (r.onSegment s fun x => { x with unguarded := true })

/-- The sweep timer expires (R12, R13). -/
def sweepExpired (e : Site) (tell : Listener) (s : SegId) (r : Road) : Road :=
  if (r.segment s).state = .clearing && (r.segment s).sweepTimer.isSome then
    evalClosed e tell s (r.onSegment s fun x => { x with sweepTimer := none })
  else r

/-- Entering CLEARING (R12): sweep timer, targets DOWN, R14 for the gates FAULTED at the entry; a sweep time of 0
expires on entry. The SEGMENT_STATE report comes first, then those of the retargeted gates, then SEGMENT_UNGUARDED, and the
expiry and the move to CLOSED it may bring come last (DESIGN CHOICE, log 37). -/
def enterClearing (e : Site) (tell : Listener) (s : SegId) (r : Road) : Road :=
  let faulted := guardsIn e s .faulted r
  let r1 := moveSegment e s .clearing (r.onSegment s fun x =>
    { x with noticeTimer := none, sweepTimer := some (e.now + sec (e.segCfg s).sweepTime) })
  let r2 := markUnguarded e s faulted (targetGuards e tell s .down r1)
  if (e.segCfg s).sweepTime = 0 then sweepExpired e tell s r2 else r2

/-- A sign blocks the notice: its head is ONLINE or LAGGING and its confirmed claim is not of class AVALANCHE or
CLOSURE (R9). -/
def blocksNotice (r : Road) (h : SignId) : Bool :=
  (r.head h).link.answering &&
    !(match (r.sign h).confirmed with
      | some c => c.cls == some .avalanche || c.cls == some .closure
      | none => false)

/-- The signs of the notice set that block (R9, R10). -/
def blocking (e : Site) (s : SegId) (r : Road) : List SignId := (signsOf (e.segCfg s).noticeSet).filter (blocksNotice r)

/-- The notice condition, evaluated in NOTICE (R9). -/
def evalNotice (e : Site) (tell : Listener) (s : SegId) (r : Road) : Road :=
  if (r.segment s).state = .notice && (blocking e s r).isEmpty then enterClearing e tell s r else r

/-- Entering NOTICE (R8). -/
def enterNotice (e : Site) (tell : Listener) (s : SegId) (r : Road) : Road :=
  let r1 := moveSegment e s .notice (r.onSegment s fun x =>
    { x with noticeTimer := some (e.now + sec (e.segCfg s).noticeLimit) })
  evalNotice e tell s (targetGuards e tell s .up r1)

/-- The notice timer expires (R10). -/
def noticeExpired (e : Site) (tell : Listener) (s : SegId) (r : Road) : Road :=
  if (r.segment s).state = .notice && (r.segment s).noticeTimer.isSome then
    let n := (blocking e s r).length
    enterClearing e tell s
      ((r.onSegment s fun x => { x with noticeIncomplete := true, noticeTimer := none }).report e .noticeExpired
        (s.val + 1) (.number n))
  else r

/-- A hold joining event, by segment state (R7, R11, R12, R15, R18). -/
def holdJoined (e : Site) (tell : Listener) (s : SegId) (h : Hold) (r : Road) : Road :=
  match (r.segment s).state with
  | .open =>
    let r1 := postAll e tell (e.segCfg s).noticeSet (closureClaim e s) r
    if h.isAvalanche then enterClearing e tell s r1 else enterNotice e tell s r1
  | .notice => if h.isAvalanche then enterClearing e tell s r else r
  | .clearing => r
  | .closed =>
    match h with
    | .path p => cancelPasses e tell s p r
    | _ => r
  | .reopening => enterClearing e tell s r

/-- A hold leaving event, by segment state (R11, R12, R15). -/
def holdLeft (e : Site) (tell : Listener) (s : SegId) (r : Road) : Road :=
  match (r.segment s).state with
  | .notice => if (e.hold s).isEmpty then enterReopening e tell s r else r
  | .closed => evalReopen e tell s r
  | _ => r

/-! ## Signals -/

/-- A guard gate has entered UP or DOWN (R13, R17, R22). -/
def gateRested (e : Site) (tell : Listener) (g : GateId) (d : Dir) (r : Road) : Road :=
  if !(e.gateCfg g).enabled then r
  else
    match d with
    | .up => evalOpen e tell (e.gateCfg g).guarded (startPass e g r)
    | .down => evalClosed e tell (e.gateCfg g).guarded r

/-- A guard gate has entered FAULTED: an active pass ends with the target its segment calls for, and R14 or R17 applies
(R14, R17, R22). The PASS_ENDED report comes before SEGMENT_UNGUARDED, and in CLEARING SEGMENT_UNGUARDED before the move to
CLOSED that the fault may complete by R13; no rule orders them (DESIGN CHOICE, log 37). -/
def gateFaulted (e : Site) (tell : Listener) (g : GateId) (r : Road) : Road :=
  if !(e.gateCfg g).enabled then r
  else
    let s := (e.gateCfg g).guarded
    let r1 :=
      if (r.pass g).isActive then
        setTarget e tell g (r.segment s).state.target (endPass e g .gateFault r)
      else r
    match (r1.segment s).state with
    | .clearing => evalClosed e tell s (markUnguarded e s [g] r1)
    | .closed => markUnguarded e s [g] r1
    | .reopening => reportGates e .reopenBlocked s [g] r1
    | _ => r1

/-- A sign has changed link state or confirmed claim: every enabled segment whose notice set contains it evaluates its
notice condition, in number order (R9, R143, R158). -/
def signChanged (e : Site) (tell : Listener) (h : SignId) (r : Road) : Road :=
  (List.finRange 6).foldl (fun r s =>
    if (e.segCfg s).enabled && hasSign (e.segCfg s).noticeSet h then evalNotice e tell s r else r) r

/-- What the Segment Controller does with one signal, given how it hears the signals this brings about. -/
def hearWith (e : Site) (tell : Listener) : Listener
  | .gateAt g d, r => gateRested e tell g d r
  | .gateFaulted g, r => gateFaulted e tell g r
  | .signChanged h, r => signChanged e tell h r

/-- Signals nested to a depth. A signal brings about another only through a change of segment state, and without a new
hold a segment has at most four of those (log 16). -/
def hear (e : Site) : Nat → Listener
  | 0 => fun _ r => r
  | n + 1 => hearWith e (hear e n)

/-- The listener of every reaction. -/
def listener (e : Site) : Listener := hear e 64

/-! ## Holds of a state (R5) -/

/-- A source raises a hold on a segment: nothing for a segment that is not enabled (R1) or that has it already. -/
def State.raiseHold (s : SegId) (h : Hold) (x : State) : State :=
  if !(x.site.segCfg s).enabled || (x.site.hold s).has h then x
  else
    let e := x.site.setHold s ((x.site.hold s).put h true)
    { x with site := e, road := holdJoined e (listener e) s h x.road }

/-- A source drops a hold from a segment. -/
def State.dropHold (s : SegId) (h : Hold) (x : State) : State :=
  if !(x.site.segCfg s).enabled || !(x.site.hold s).has h then x
  else
    let e := x.site.setHold s ((x.site.hold s).put h false)
    { x with site := e, road := holdLeft e (listener e) s x.road }

/-- A hold raised on each segment of a set, in number order (R95, R124). -/
def State.raiseAll (set : SegSet) (h : Hold) (x : State) : State := (segsOf set).foldl (fun x s => x.raiseHold s h) x

/-- A hold dropped from each segment of a set, in number order. -/
def State.dropAll (set : SegSet) (h : Hold) (x : State) : State := (segsOf set).foldl (fun x s => x.dropHold s h) x

/-- A claim posted on each sign of a set. -/
def State.postAll (set : SignSet) (c : Claim) (x : State) : State :=
  x.react fun e r => Machine.postAll e (listener e) set c r

/-- A claim withdrawn from each sign of a set. -/
def State.withdrawAll (set : SignSet) (src : Source) (x : State) : State :=
  x.react fun e r => Machine.withdrawAll e (listener e) set src r

end Sys2Proof.Machine
end

