-- ==== Sys2Proof/Machine/Schedule.lean ====
section
/-! DEFINITION. The Schedule Unit: the state of an entry as a function of the clock, its wants, and the acts that bring
holds and claims in line (R117 to R127). -/

namespace Sys2Proof.Machine

/-- Seconds of a day. -/
def daySeconds : Nat := 86400

/-- Length of a DAILY entry's closure window (R121). -/
def windowLength (c : ScheduleCfg) : Nat := (((c.openTime : Int) - c.closeTime) % 86400).toNat

/-- Seconds since the latest close time of a DAILY entry (R123). -/
def sinceClose (c : ScheduleCfg) (zone : Int) (clock : Nat) : Nat :=
  (((localDay zone clock : Int) - c.closeTime) % 86400).toNat

/-- State of an entry at a clock value (R123). -/
def stateAt (c : ScheduleCfg) (zone : Int) (clock : Nat) : SchedState :=
  match c.kind with
  | .once =>
    if c.openTime ≤ clock then .ended
    else if c.closeTime ≤ clock then .closing
    else if c.closeTime ≤ clock + c.lead then .lead
    else .idle
  | .daily =>
    let d := sinceClose c zone clock
    if d < windowLength c then .closing else if daySeconds - d ≤ c.lead then .lead else .idle

/-- State of an entry: IDLE when not enabled or while the clock is UNSET (R121, R123). -/
def entryState (e : Site) (c : ScheduleCfg) : SchedState :=
  match e.clock with
  | some t => if c.enabled then stateAt c e.cfg.zone t.toNat else .idle
  | none => .idle

/-- Seconds until an entry's state next changes (R127). The clock of a DAILY entry is taken to run on through the coming
day: a wrap of the clock within it, at which the local time of day jumps, is not looked ahead to (DESIGN CHOICE, log 36). -/
def nextChange (e : Site) (c : ScheduleCfg) (st : SchedState) : Option Nat :=
  match e.clock with
  | none => none
  | some t =>
    if !c.enabled then none
    else
      match c.kind, st with
      | .once, .ended => none
      | .once, .closing => some (c.openTime - t.toNat)
      | .once, .lead => some (c.closeTime - t.toNat)
      | .once, .idle => some (c.closeTime - c.lead - t.toNat)
      | .daily, _ =>
        let d := sinceClose c e.cfg.zone t.toNat
        let w := windowLength c
        if daySeconds - w ≤ c.lead then none
        else if d < w then some (w - d)
        else if daySeconds - d ≤ c.lead then some (daySeconds - d)
        else some (daySeconds - d - c.lead)

/-! ## Wants (R124) -/

/-- The segments on which an entry in a state wants its hold. -/
def wantedSegs (c : ScheduleCfg) (st : SchedState) : SegSet :=
  match st with
  | .closing => c.segments
  | .idle | .lead | .ended => 0

/-- The template an entry in a state wants on a sign; none when it wants no claim there. -/
def wantedOn (c : ScheduleCfg) (st : SchedState) (h : SignId) : Option TemplateNo :=
  match st with
  | .lead | .closing => if c.template ≠ 0 && hasSign c.signs h then some c.template else none
  | .idle | .ended => none

/-- The acts of an entry, in the order of R124: c0 and st0 are the record and state before, c and st those now. -/
def State.entryActs (n : EntryId) (c0 : ScheduleCfg) (st0 : SchedState) (c : ScheduleCfg) (st : SchedState) (s : State) :
    State :=
  let s1 := s.raiseAll (wantedSegs c st &&& ~~~(wantedSegs c0 st0)) (.schedule n)
  let s2 := s1.postAll
    (signSetOf fun h => (wantedOn c st h).isSome && wantedOn c st h != wantedOn c0 st0 h)
    { source := .schedule n, cls := .schedule, template := c.template }
  let s3 := s2.dropAll (wantedSegs c0 st0 &&& ~~~(wantedSegs c st)) (.schedule n)
  let s4 := s3.withdrawAll
    (signSetOf fun h => (wantedOn c0 st0 h).isSome && (wantedOn c st h).isNone) (.schedule n)
  if st = st0 then s4 else s4.report .scheduleState (n.val + 1) (.sched st)

/-- One entry is brought into line with the clock; c0 is the record in force before (R124, R125). -/
def State.recomputeEntry (n : EntryId) (c0 : ScheduleCfg) (s : State) : State :=
  let c := s.site.entryCfg n
  let st := entryState s.site c
  let st0 := s.site.entry n
  (s.mapSite fun e => e.setEntry n st).entryActs n c0 st0 c st

/-- All 16 entries, lowest first (R125). -/
def State.recomputeAll (s : State) : State :=
  (List.finRange 16).foldl (fun s n => s.recomputeEntry n (s.site.entryCfg n)) s

/-- The clock advances by one second, and from its largest value wraps to 0; the next second ends 1 s after this one
(R118). -/
def Site.tick (e : Site) : Site :=
  { e with clock := e.clock.map (· + 1#32), secondEnd := e.clock.map fun _ => e.secondEnd.getD e.now + sec 1 }

/-- The clock is set and its second phase restarts (R119). -/
def Site.setClock (v : ClockValue) (e : Site) : Site := { e with clock := some v, secondEnd := some (e.now + sec 1) }

end Sys2Proof.Machine
end

