-- ==== Sys2Proof/Machine/Store.lean ====
section
/-! DEFINITION. The Store Controller: templates from a request, the reading of slots, and the ends of store operations
(R164 to R170). -/

namespace Sys2Proof.Machine

/-! ## Templates of a request (R165, R188) -/

/-- A field by its kind byte and argument. -/
def fieldOf : Nat → Nat → Option Field
  | 1, a => (index1 3 a).map .air
  | 2, a => (index1 3 a).map .surf
  | 3, a => (index1 3 a).map .wind
  | 4, a => (index1 3 a).map .gust
  | 5, a => (index1 16 a).map .close
  | 6, a => (index1 16 a).map .open
  | _, _ => none

/-- An item that passes the checks of R165. -/
def itemOf : RawItem → Option Item
  | .char c => if 32 ≤ c ∧ c ≤ 126 then some (.char c) else none
  | .field k a => (fieldOf k a).map .field
  | .bad => none

/-- Width of a field in cells (R137). -/
def Field.width : Field → Nat
  | .air _ | .surf _ | .close _ | .open _ => 5
  | .wind _ | .gust _ => 3

/-- Cells of an item. -/
def Item.width : Item → Nat
  | .char _ => 1
  | .field f => f.width

/-- Cell count of a line (R165). -/
def cellCount (l : List Item) : Nat := (l.map Item.width).sum

/-- A line that passes the checks of R165: well-formed items and at most 18 cells. -/
def lineOf (l : List RawItem) : Option (List Item) :=
  match l.mapM itemOf with
  | some items => if cellCount items ≤ 18 then some items else none
  | none => none

/-- A template of exactly three lines that pass (R165). -/
def templateOf : List (List RawItem) → Option Template
  | [a, b, c] =>
    match lineOf a, lineOf b, lineOf c with
    | some x, some y, some z => some { line1 := x, line2 := y, line3 := z }
    | _, _, _ => none
  | _ => none

/-- The lines of slot 0: three runs of 18 spaces (R167). -/
def blankTemplate : Template :=
  { line1 := List.replicate 18 (.char 32), line2 := List.replicate 18 (.char 32), line3 := List.replicate 18 (.char 32) }

/-- The template a slot shows to GET_TEMPLATE (R167). -/
def Slot.lines : Slot → Option Template
  | .valid t _ => some t
  | .writing t => some t
  | .empty | .bad => none

/-! ## Store operations -/

/-- A template write begins (R165). -/
def State.beginTemplate (n : SlotId) (t : Template) (s : State) : State :=
  (s.mapSite fun e => { e with storeOp := some (.template n) }).react fun _ r => r.setSlot n (.writing t)

/-- The slot after a write whose read-back matches or differs (R166). -/
def writtenSlot (x : Slot) (ok : Bool) : Slot :=
  match x, ok with
  | .writing t, true => .valid t true
  | _, _ => .bad

/-- A template write ends (R166). -/
def State.endTemplate (ok : Bool) (s : State) : State :=
  match s.site.storeOp with
  | some (.template n) =>
    (s.mapSite fun e => { e with storeOp := none }).react fun e r =>
      renderSlot e (listener e) (slotNumber n)
        ((r.setSlot n (writtenSlot r.slots[n] ok)).report e (if ok then .storeDone else .storeFault) (n.val + 1) .template)
  | _ => s

/-- A configuration save begins: the working configuration is taken as it stands (R169). -/
def Site.beginSave (e : Site) : Site :=
  { e with storeOp := some .config, image := { state := .writing, records := e.cfg, intact := false } }

/-- The image after a save (R169). -/
def savedImage (x : Image) (ok : Bool) : Image :=
  if ok then { x with state := .valid, intact := true } else { x with state := .invalid, intact := false }

/-- A configuration save ends (R169). -/
def State.endSave (ok : Bool) (s : State) : State :=
  match s.site.storeOp with
  | some .config =>
    (s.mapSite fun e => { e with storeOp := none, image := savedImage e.image ok }).report
      (if ok then .storeDone else .storeFault) 0 .config
  | _ => s

end Sys2Proof.Machine
end

