-- ==== Sys2Proof/Machine/Answers.lean ====
section
/-! DEFINITION. The Sign Link Master's handling of answers, misses and delays: link states, the steps of a LOAD, its
abandonment and confirmation, and the restart of a head's record (R146, R148 to R158, R161). -/

namespace Sys2Proof.Machine

/-! ## Link states -/

/-- Report of a change of link state (R158). -/
def linkReport (old new : LinkState) (c : StallCause) : ReportKind × ReportValue :=
  match new with
  | .silent => (.headLinkLost, .link old)
  | .stalled => (.headStalled, .stall c)
  | _ => (.headLinkState, .link new)

/-- What entry into a link state does to the record: PROBING forgets the toggle and falls due at once, PROBING and SILENT
set the missed count to 0, and a head that was due is due again by the interval of its new state (R156, R157, R159). -/
def enterLink (now : Nat) (new : LinkState) (x : Head) : Head :=
  { x with
    link := new
    toggle := if new = .probing then none else x.toggle
    missed := if new = .probing ∨ new = .silent then 0 else x.missed
    due := if new = .probing then some now else none }

/-- A change of a head's link state: its report, the hand-over to the segments, and on entry into ONLINE a loadable
pending page or a forced rendering (R158). -/
def setLink (e : Site) (tell : Listener) (h : SignId) (new : LinkState) (c : StallCause) (r : Road) : Road :=
  let old := (r.head h).link
  if old = new then r
  else
    let x := linkReport old new c
    let r1 := tell (.signChanged h) ((r.onHead h (enterLink e.now new)).report e x.1 (h.val + 1) x.2)
    if new = .online then
      if (r1.sign h).pending.isSome then linkArbitrate e r1
      else if r1.loading h then r1
      else render e tell h true r1
    else r1

/-- The missed count is set. -/
def setMissed (h : SignId) (n : Nat) (r : Road) : Road := r.onHead h fun x => { x with missed := n }

/-- A missed answer, or a bad answer to a data packet (R151, R156, R157). -/
def missedAnswer (e : Site) (tell : Listener) (h : SignId) (r : Road) : Road :=
  let n := (r.head h).missed + 1
  match (r.head h).link with
  | .probing => if n < 5 then setMissed h n r else setLink e tell h .silent .stall r
  | .online => setLink e tell h .lagging .stall (setMissed h 1 r)
  | .lagging | .stalled => if n < 3 then setMissed h n r else setLink e tell h .silent .stall r
  | .silent | .unconfigured => r

/-- A bad answer to a POLL or to the confirmation POLL (R154, R156, R157). -/
def badStatus (e : Site) (tell : Listener) (h : SignId) (r : Road) : Road :=
  match (r.head h).link with
  | .probing => missedAnswer e tell h r
  | .unconfigured => r
  | _ => setLink e tell h .probing .stall r

/-! ## Transactions -/

/-- A transaction ends: its end is the end of the head's latest transaction, and the arbiter chooses (R148, R154,
R160). -/
def endTransaction (e : Site) (h : SignId) (r : Road) : Road :=
  linkArbitrate e ((r.onHead h fun x => { x with lastEnd := e.now }).setLinkTo none)

/-- The transaction goes on with another frame. -/
def sendFrame (e : Site) (t : Transaction) (s : Step) (toggle : Bool) (r : Road) : Road :=
  r.setLinkTo (some { t with step := s, wait := e.window, toggle := toggle })

/-- The page of a LOAD abandoned for NAKs, STALL or SILENT is copied back unless a newer page is pending; one LOAD_ABANDONED
report is queued (R142, R151 to R153, R155). -/
def abandonLoad (e : Site) (h : SignId) (c : AbandonCause) (r : Road) : Road :=
  let r1 :=
    match (r.sign h).pending, (r.sign h).sent with
    | none, some s => pend h s.page r
    | _, _ => r
  r1.report e .loadAbandoned (h.val + 1) (.abandon c)

/-- The data packet is waiting for an ACK, NAK or STALL; the others for a STATUS (R146). -/
def Step.isData : Step → Bool
  | .command | .text1 | .text2 => true
  | .poll | .confirm => false

/-- The step after an ACK (R149). -/
def Step.next : Step → Step
  | .command => .text1
  | .text1 => .text2
  | .text2 => .confirm
  | s => s

/-- A good answer brings a LAGGING head back to ONLINE (R157). -/
def goodAnswer (e : Site) (tell : Listener) (h : SignId) (r : Road) : Road :=
  let r1 := setMissed h 0 r
  if (r1.head h).link = .lagging then setLink e tell h .online .stall r1 else r1

/-- An ACK to a data packet (R150, R152, R157). -/
def takeAck (e : Site) (tell : Listener) (t : Transaction) (r : Road) : Road :=
  let toggle := !t.toggle
  let r1 := r.onHead t.head fun x => { x with naks := 0, toggle := some toggle }
  let r2 := goodAnswer e tell t.head r1
  if t.reserved then endTransaction e t.head r2 else sendFrame e t t.step.next toggle r2

/-- A NAK to a data packet (R152). -/
def takeNak (e : Site) (tell : Listener) (t : Transaction) (r : Road) : Road :=
  let n := (r.head t.head).naks + 1
  let r1 := goodAnswer e tell t.head (r.onHead t.head fun x => { x with naks := n })
  if t.reserved then endTransaction e t.head r1
  else if n < 8 then r1.setLinkTo (some { t with wait := .nak (e.now + ms 200) })
  else
    endTransaction e t.head
      (setLink e tell t.head .lagging .stall (setMissed t.head 0 (abandonLoad e t.head .naks r1)))

/-- A STALL to a data packet (R153, R157). -/
def takeStall (e : Site) (tell : Listener) (t : Transaction) (r : Road) : Road :=
  let r1 := setMissed t.head 0 r
  let r2 := if t.reserved then r1 else abandonLoad e t.head .stall r1
  endTransaction e t.head (setLink e tell t.head .stalled .stall r2)

/-- A missed or bad answer to a data packet (R151). -/
def takeDataMiss (e : Site) (tell : Listener) (t : Transaction) (r : Road) : Road :=
  let r1 := missedAnswer e tell t.head r
  if t.reserved then endTransaction e t.head r1
  else if (r1.head t.head).link.answering then sendFrame e t t.step t.toggle r1
  else endTransaction e t.head (abandonLoad e t.head .silent r1)

/-- A missed answer to a POLL or to the confirmation POLL (R151, R156, R157). -/
def takePollMiss (e : Site) (tell : Listener) (t : Transaction) (r : Road) : Road :=
  let r1 := missedAnswer e tell t.head r
  if t.step = .confirm && !t.reserved && (r1.head t.head).link.answering then sendFrame e t t.step t.toggle r1
  else endTransaction e t.head r1

/-- A bad answer to a POLL or to the confirmation POLL (R154, R156, R157). -/
def takePollBad (e : Site) (tell : Listener) (t : Transaction) (r : Road) : Road :=
  endTransaction e t.head (badStatus e tell t.head r)

/-! ## A good STATUS -/

/-- The HEAD_FLAGS report of step 5 (R148). -/
def statusFlags (e : Site) (h : SignId) (before : Option HeadStatus) (st : HeadStatus) (r : Road) : Road :=
  let changed :=
    match before with
    | some b => b.doorOpen != st.doorOpen || b.heaterFail != st.heaterFail
    | none => st.doorOpen || st.heaterFail
  if changed then r.report e .headFlags (h.val + 1) (.flags st.doorOpen st.heaterFail) else r

/-- The HEAD_RESTARTED report of step 6 (R148). -/
def statusRestart (e : Site) (h : SignId) (before : Option HeadStatus) (st : HeadStatus) (r : Road) : Road :=
  if st.phase = .starting && before.any (·.phase == .ready) then r.report e .headRestarted (h.val + 1) .none else r

/-- The confirmed claim that a STATUS sets (R143). -/
def confirmedBy (x : Sign) (tag : Byte) : Option Confirmed :=
  match x.sent with
  | some s => if s.tag = tag then some { claim := s.page.claim, cls := s.page.cls, tag := tag } else none
  | none => none

/-- The head shows another page than the sent page, or no page has been sent (R148 step 8). -/
def showsOther (x : Sign) (tag : Byte) : Bool :=
  match x.sent with
  | some s => s.tag != tag
  | none => true

/-- The LOAD_UNCONFIRMED report of a confirmation STATUS that shows another tag (R154; log 19). -/
def statusUnconfirmed (e : Site) (h : SignId) (loaded : Bool) (st : HeadStatus) (r : Road) : Road :=
  match loaded, (r.sign h).sent with
  | true, some s =>
    if s.tag = st.shownTag then r else r.report e .loadUnconfirmed (h.val + 1) (.number s.tag.toNat)
  | _, _ => r

/-- Step 7 (R148, R156, R157): DISPLAY_FAIL leads to STALLED, any other good STATUS to ONLINE. -/
def statusLink (e : Site) (tell : Listener) (h : SignId) (st : HeadStatus) (r : Road) : Road :=
  setLink e tell h (if st.displayFail then .stalled else .online) .displayFail r

/-- Step 8 (R148): the forced rendering of a head that has lost its page. -/
def statusReload (e : Site) (tell : Listener) (h : SignId) (st : HeadStatus) (r : Road) : Road :=
  if (r.head h).link.answering && showsOther (r.sign h) st.shownTag && (r.sign h).pending.isNone && !r.loading h then
    render e tell h true r
  else r

/-- A good STATUS is taken whole, in the order of R148; loaded says that it answers a confirmation POLL (R154). -/
def goodStatus (e : Site) (tell : Listener) (h : SignId) (loaded : Bool) (st : HeadStatus) (r : Road) : Road :=
  let before := (r.head h).status
  let r1 := r.onHead h fun x => { x with status := some st, missed := 0, toggle := some st.toggle }
  let r2 := setConfirmed tell h (confirmedBy (r1.sign h) st.shownTag) r1
  let r3 := statusRestart e h before st (statusFlags e h before st (statusUnconfirmed e h loaded st r2))
  statusReload e tell h st (statusLink e tell h st r3)

/-- A good STATUS to a POLL or to the confirmation POLL; the LOAD of a confirmation has ended when it is taken (R148,
R154). The STATUS is taken whole also where the LOAD is already ordered abandoned for RESERVE (R155; DEDUCED, log 18). -/
def takeStatus (e : Site) (tell : Listener) (t : Transaction) (st : HeadStatus) (r : Road) : Road :=
  endTransaction e t.head
    (goodStatus e tell t.head (t.step == .confirm) st (r.setLinkTo (some { t with step := .poll })))

/-! ## Judging an answer -/

/-- What the answer window brought (R146). -/
inductive Answer | status (st : HeadStatus) | ack | nak | stall | bad | missed
  deriving DecidableEq, Repr

/-- An answer taken by the transaction in progress, by what its exchange expects (R146). The answer to a head whose sign
has been rewritten is ignored (R155, R161; log 29). -/
def takeAnswer (e : Site) (tell : Listener) (a : Answer) (r : Road) : Road :=
  match r.link with
  | none => r
  | some t =>
    match t.wait with
    | .nak _ => r
    | .answer _ =>
      if t.rewritten then linkArbitrate e (r.setLinkTo none)
      else if t.step.isData then
        match a with
        | .ack => takeAck e tell t r
        | .nak => takeNak e tell t r
        | .stall => takeStall e tell t r
        | .status _ | .bad | .missed => takeDataMiss e tell t r
      else
        match a with
        | .status st => takeStatus e tell t st r
        | .missed => takePollMiss e tell t r
        | .ack | .nak | .stall | .bad => takePollBad e tell t r

/-- The wait after a NAK ends: the same packet is sent again with the same toggle (R152). -/
def nakWaitEnded (e : Site) (r : Road) : Road :=
  match r.link with
  | some t =>
    match t.wait with
    | .nak _ => sendFrame e t t.step t.toggle r
    | .answer _ => r
  | none => r

/-! ## Orders from outside a transaction -/

/-- The transaction to a head is abandoned because its sign is rewritten (R155, R161). A LOAD in a NAK delay
ends at once, and its end is not taken as that of the head's latest transaction (DESIGN CHOICE, log 29). -/
def abandonRewrite (h : SignId) (r : Road) : Road :=
  match r.link with
  | some t =>
    if t.head = h then
      match t.wait with
      | .nak _ => r.setLinkTo none
      | .answer _ => r.setLinkTo (some { t with rewritten := true })
    else r
  | none => r

/-- The restart of a head's link record by an accepted PUT_SIGN (R161); the next page tag is kept. An enabled
head is due at the moment of the write, also one in PROBING that was due already (DESIGN CHOICE, log 42). -/
def restartHead (e : Site) (tell : Listener) (h : SignId) (enabled : Bool) (r : Road) : Road :=
  let new : LinkState := if enabled then .probing else .unconfigured
  let r1 := (abandonRewrite h r).onHead h fun x => { x with missed := 0, naks := 0, toggle := none, status := none }
  (setLink e tell h new .stall r1).onHead h fun x => { x with due := if enabled then some e.now else none }

/-- A page that RESERVE blanks and that was rendered before it did (R141). -/
def Page.blankable (p : Page) : Bool := (p.cls == some .advisory || p.cls == none) && p.template != 0

/-- The load in flight that carries such a page is abandoned: at once while it waits out a NAK delay, otherwise after the
exchange in progress (R141, R155). Where the LOAD ends at once, the link arbiter chooses at that moment, before the signs are
rendered for the new stage (DEDUCED, log 12). -/
def abandonReserved (e : Site) (r : Road) : Road :=
  match r.link with
  | some t =>
    if t.step != .poll && !t.rewritten && (r.sign t.head).sent.any (·.page.blankable) then
      match t.wait with
      | .nak _ => endTransaction e t.head r
      | .answer _ => r.setLinkTo (some { t with reserved := true })
    else r
  | none => r

/-- A fall to RESERVE discards the pending pages it blanks, of enabled signs in address order (R141). -/
def discardBlankable (e : Site) (r : Road) : Road :=
  (List.finRange 16).foldl (fun r h =>
    if (e.signCfg h).enabled && (r.sign h).pending.any (·.page.blankable) then unpend h r else r) r

end Sys2Proof.Machine
end

