-- ==== Sys2Proof/Machine/Capture.lean ====
section
/-! DEFINITION. The Timebase and Capture Unit: counts, channel restarts, edges, wraps and level times (R50 to R63). -/

namespace Sys2Proof.Machine

/-- Ticks of a timebase from one wrap to the next (R50). -/
def wrapTicks : Nat := 16777216

/-- The count of a timebase (R50): the ticks since it was last 0. The wrap itself is an event. -/
def Site.tbCount (e : Site) (t : TbId) : Nat :=
  min ((e.now - e.tbZero[t]) / (e.tbCfg t).rate.division) (wrapTicks - 1)

/-- A timebase's count becomes 0 (R52). The rule zeroes the count and says nothing of the division of the reference: the
model restarts that too, so that the first tick is a full one (DESIGN CHOICE, log 35). -/
def Site.zeroTb (t : TbId) (e : Site) : Site := { e with tbZero := e.tbZero.set t e.now }

/-- A timebase's count becomes 0 so many ticks of so many microseconds after it last was 0, with its phase kept (R50,
R53). -/
def Site.passTb (t : TbId) (ticks division : Nat) (e : Site) : Site :=
  { e with tbZero := e.tbZero.set t (e.tbZero[t] + ticks * division) }

/-- A channel selects its timebase in PERIOD and LOWWIDTH modes (R55). -/
def chanSelects (c : ChannelCfg) (t : TbId) : Bool :=
  (c.mode == .period || c.mode == .lowWidth) && c.timebase == t

/-- The level a channel sees through its polarity (Capture Channels). -/
def Site.seenHigh (e : Site) (c : ChanId) : Bool := (e.chan c).pin != (e.chanCfg c).inverted

/-- A restart puts a channel into the starting state of its mode (R57). -/
def Site.restartChannel (c : ChanId) (e : Site) : Site :=
  let cfg := e.chanCfg c
  e.setChan c
    { pin := (e.chan c).pin
      restartedAt := e.now
      levelCount := if cfg.mode = .lowWidth then e.tbCount cfg.timebase else 0
      binEnd := if cfg.mode = .count then some (e.now + sec 1) else none }

/-- Every channel that selects a timebase is restarted (R52). -/
def Site.restartSelecting (t : TbId) (e : Site) : Site :=
  (List.finRange 12).foldl (fun e c => if chanSelects (e.chanCfg c) t then e.restartChannel c else e) e

/-- A rising edge in PERIOD mode (R58 to R60). -/
def Channel.periodEdge (x : Channel) (cfg : ChannelCfg) (rate : Rate) (count now : Nat) : Channel :=
  match x.reference with
  | none => { x with reference := some count, wraps := 0, edgeCount := 0 }
  | some ref =>
    if x.edgeCount + 1 < cfg.edges.number then { x with edgeCount := x.edgeCount + 1 }
    else
      let elapsed := count + wrapTicks * x.wraps - ref
      let ticks := if elapsed < wrapTicks then some elapsed else none
      { x with
        reference := some count, wraps := 0, edgeCount := 0
        latest :=
          if elapsed = 0 then x.latest
          else some { ticks := ticks, edges := cfg.edges, timebase := cfg.timebase, rate := rate, completed := now } }

/-- An edge at a capture input's pin, by the channel's mode (R58, R61, R63). -/
def Site.edge (c : ChanId) (rising : Bool) (e : Site) : Site :=
  let cfg := e.chanCfg c
  let x : Channel := { e.chan c with pin := rising }
  if !e.running then e.setChan c x
  else
    let up := rising != cfg.inverted
    let count := e.tbCount cfg.timebase
    match cfg.mode with
    | .off => e.setChan c x
    | .period =>
      e.setChan c (if up then x.periodEdge cfg (e.tbCfg cfg.timebase).rate count e.now else x)
    | .lowWidth => e.setChan c { x with levelCount := count, levelWraps := 0, levelHeld := false }
    | .count => e.setChan c (if up then { x with bin := min 65535 (x.bin + 1) } else x)

/-- The time of the current level of a LOWWIDTH channel in milliseconds, stopping at 65,535 (R61). -/
def Site.levelMs (e : Site) (c : ChanId) : Nat :=
  let cfg := e.chanCfg c
  let x := e.chan c
  let ticks := e.tbCount cfg.timebase + wrapTicks * x.levelWraps - x.levelCount
  if x.levelHeld then 65535 else min 65535 (nearest (ticks * (e.tbCfg cfg.timebase).rate.division) 1000)

/-- A wrap of a timebase (R50, R58, R61); a level time that has stopped at 65,535 ms stays there. T3 in FLASH mode has no
wraps (R53). -/
def Site.wrap (t : TbId) (e : Site) : Site :=
  if (e.tbCfg t).mode = .flash then e
  else
    let held := fun c => decide (65535 ≤ e.levelMs c)
    (List.finRange 12).foldl (fun e c =>
      if chanSelects (e.chanCfg c) t then
        let x := e.chan c
        match (e.chanCfg c).mode with
        | .period => e.setChan c { x with wraps := min 2 (x.wraps + 1) }
        | .lowWidth => e.setChan c { x with levelWraps := min 4 (x.levelWraps + 1), levelHeld := held c }
        | .off | .count => e
      else e) (e.passTb t wrapTicks (e.tbCfg t).rate.division)

/-- Low width in milliseconds, 0 while the input is high (R61). -/
def Site.lowMs (e : Site) (c : ChanId) : Nat := if e.seenHigh c then 0 else e.levelMs c

/-- High time in milliseconds, 0 while the input is low (R61). -/
def Site.highMs (e : Site) (c : ChanId) : Nat := if e.seenHigh c then e.levelMs c else 0

/-- The two detectors of a path record. -/
def detOf (c : PathCfg) : DetNo → Option Detector
  | .first => some c.det1
  | .second => c.det2

/-- The detectors of a path record, in number order. -/
def detsOf (c : PathCfg) : List Detector := c.det1 :: c.det2.toList

/-- The applicable debounce time of a channel: the shortest of the enabled paths that name it as a trip-line, or 1000 ms
(R61). -/
def Site.debounce (e : Site) (c : ChanId) : Nat :=
  let l := (List.finRange 8).flatMap fun p =>
    if (e.pathCfg p).enabled then
      ((detsOf (e.pathCfg p)).filter fun d => d.chan == c && d.kind == .tripline).map (·.debounce)
    else []
  match l with
  | [] => 1000
  | a :: rest => rest.foldl min a

/-- The sum of the newest closed bins (R63). -/
def Channel.windowSum (x : Channel) (n : Nat) : Nat := (x.bins.take n).sum

/-- The current bin closes: it joins the front of the closed bins, of which 60 are held, and the next one ends 1 s after it
(R63). -/
def Channel.closeBin (x : Channel) (now : Nat) : Channel :=
  { x with bins := (x.bin :: x.bins).take 60, bin := 0, binEnd := some (x.binEnd.getD now + sec 1) }

end Sys2Proof.Machine
end

