-- ==== Sys2Proof/Machine/Paths.lean ====
section
/-! DEFINITION. The Avalanche Path Unit: detectors, coverage, detection, holds and claims of a path, and the beacon flash
generator (R102 to R114). -/

namespace Sys2Proof.Machine

/-! ## One path -/

/-- A detector's runtime fields. -/
def Path.det (x : Path) : DetNo → DetectorRt
  | .first => x.det1
  | .second => x.det2

/-- A detector's runtime fields are set. -/
def Path.setDet (x : Path) (d : DetNo) (y : DetectorRt) : Path :=
  match d with
  | .first => { x with det1 := y }
  | .second => { x with det2 := y }

/-- The channel of a detector. -/
def detChan (c : PathCfg) (d : DetNo) : ChanId :=
  match detOf c d with
  | some x => x.chan
  | none => c.det1.chan

/-- The mode a detector's kind needs of its channel (R104). -/
def modeOfKind : DetKind → ChanMode
  | .tripline => .lowWidth
  | .seismic => .count

/-- A detector is usable: its channel is in the mode of its kind and it is not SPENT (R104). -/
def Site.usable (e : Site) (p : PathId) (d : DetNo) : Bool :=
  match detOf (e.pathCfg p) d with
  | some x => (e.chanCfg x.chan).mode == modeOfKind x.kind && ((e.path p).det d).state != .spent
  | none => false

/-- Coverage of an enabled path from its usable detectors (R104). -/
def Site.coverageOf (e : Site) (p : PathId) : Coverage :=
  match (e.pathCfg p).mode, e.usable p .first, e.usable p .second with
  | _, false, false => .blind
  | .any, _, _ => .full
  | .both, true, true => .full
  | .both, _, _ => .degraded

/-- The value of a coverage report when no single detector's change causes it (R104). -/
def Site.coverageChan (e : Site) (p : PathId) : ChanId :=
  let c := e.pathCfg p
  if !e.usable p .first then detChan c .first
  else if (detOf c .second).isSome && !e.usable p .second then detChan c .second
  else detChan c .first

/-- Report of a change of coverage (R104). -/
def Coverage.report : Coverage → ReportKind
  | .full => .pathCoverageRestored
  | .degraded => .pathDegraded
  | .blind => .pathBlind

/-- What a path wants on its segment, its signs and its beacon (Holds and Claims table). -/
structure Wants where
  path : Bool
  hazard : Bool
  claim : Option (ClaimClass × TemplateNo)
  pattern : Pattern
  deriving DecidableEq, Repr

/-- The wants of a path by its detection state and declaration (R110 to R112). -/
def wantsOf (c : PathCfg) (x : Path) : Wants :=
  if !c.enabled then { path := false, hazard := false, claim := none, pattern := .off }
  else
    let hz := x.declared && x.closeOption
    match x.detection with
    | .quiet =>
      if x.declared then { path := false, hazard := hz, claim := some (.hazard, c.hazardTemplate), pattern := .slow }
      else { path := false, hazard := false, claim := none, pattern := .off }
    | .suspect => { path := false, hazard := hz, claim := some (.hazard, c.hazardTemplate), pattern := .fast }
    | .released => { path := true, hazard := hz, claim := some (.avalanche, c.avalancheTemplate), pattern := .fast }

/-- Slots lit by pattern, phase and stage (R112). -/
def beaconMask (pt : Pattern) (ph : BeaconPhase) (st : Stage) : BitVec 8 :=
  match pt, ph, st with
  | .off, _, _ => 0
  | .slow, .a, .reserve => 0b00000001
  | .slow, .a, _ => 0b00000011
  | .slow, .b, .reserve => 0b00010000
  | .slow, .b, _ => 0b00110000
  | .fast, .a, .reserve => 0b00010001
  | .fast, .a, _ => 0b01010101
  | .fast, .b, .reserve => 0b00100010
  | .fast, .b, _ => 0b10101010

/-- The wanted mask of a path's beacon (R112). -/
def Site.wantedMask (e : Site) (p : PathId) : BitVec 8 :=
  let c := e.pathCfg p
  if c.enabled && c.beaconEnabled then beaconMask (wantsOf c (e.path p)).pattern c.beaconPhase e.stage else 0

/-- T3 is in FREE mode. -/
def Site.t3Free (e : Site) : Bool := (e.tbCfg 3).mode == .free

/-- The wanted mask is worked out again and latched; in FREE mode the output follows at once (R113, R114). -/
def Site.latchBeacon (p : PathId) (e : Site) : Site :=
  let m := e.wantedMask p
  let x := e.path p
  e.setPath p { x with wanted := m, lit := if e.t3Free then m != 0 else x.lit }

/-- A slot event: at slot 0 every wanted mask is copied into the active mask, and each beacon is lit by its active mask
(R113). -/
def Site.slotEvent (e : Site) : Site :=
  (List.finRange 8).foldl (fun e p =>
    let x := e.path p
    let a := if e.slot = 0 then x.wanted else x.active
    e.setPath p { x with active := a, lit := a.getLsbD e.slot.val }) e

/-- T3 has entered FREE mode: each beacon takes its output from its wanted mask (R114). -/
def Site.freeBeacons (e : Site) : Site :=
  (List.finRange 8).foldl (fun e p =>
    let x := e.path p
    e.setPath p { x with lit := x.wanted != 0 }) e

/-! ## Following a change of state -/

/-- The holds, claim and beacon follow a change of detection state or declaration (R110, R111, R113): raises before
drops, then the claim, then the beacon. -/
def State.followPath (p : PathId) (old : Wants) (s : State) : State :=
  let c := s.site.pathCfg p
  let new := wantsOf c (s.site.path p)
  let s1 := if new.path && !old.path then s.raiseHold c.crossing (.path p) else s
  let s2 := if new.hazard && !old.hazard then s1.raiseHold c.crossing (.hazard p) else s1
  let s3 := if old.path && !new.path then s2.dropHold c.crossing (.path p) else s2
  let s4 := if old.hazard && !new.hazard then s3.dropHold c.crossing (.hazard p) else s3
  let s5 :=
    if new.claim = old.claim then s4
    else
      match new.claim with
      | some (cls, t) => s4.postAll c.signs { source := .path p, cls := cls, template := t }
      | none => s4.withdrawAll c.signs (.path p)
  s5.mapSite (Site.latchBeacon p)

/-- A change of a path's runtime fields, with its report, followed by its holds, claim and beacon. -/
def State.movePath (p : PathId) (f : Path → Path) (k : ReportKind) (v : ReportValue) (s : State) : State :=
  let old := wantsOf (s.site.pathCfg p) (s.site.path p)
  ((s.mapSite fun e => e.setPath p (f (e.path p))).report k (p.val + 1) v).followPath p old

/-- The path enters RELEASED (R105, R106). -/
def State.releasePath (p : PathId) (c : ChanId) (s : State) : State :=
  s.movePath p (fun x => { x with detection := .released, confirmTimer := none }) .pathReleased (.chan c)

/-- The FIRED detector of a path, the first if both have fired. -/
def firedDet (x : Path) : DetNo := if x.det1.state = .fired then .first else .second

/-- The coverage is worked out again; a change is reported, and DEGRADED in SUSPECT completes the release (R104, R106), in that
order (DEDUCED, log 44).
cause is the detector whose change caused it, if a single one did. -/
def State.recover (p : PathId) (cause : Option DetNo) (s : State) : State :=
  if !(s.site.pathCfg p).enabled then s
  else
    let new := s.site.coverageOf p
    if new = (s.site.path p).coverage then s
    else
      let chan := match cause with
        | some d => detChan (s.site.pathCfg p) d
        | none => s.site.coverageChan p
      let s1 := (s.mapSite fun e => e.setPath p { e.path p with coverage := new }).report new.report (p.val + 1)
        (.chan chan)
      if (s.site.path p).detection = .suspect && new = .degraded then
        s1.releasePath p (detChan (s.site.pathCfg p) (firedDet (s.site.path p)))
      else s1

/-- A detector's state is set. -/
def State.setDetState (p : PathId) (d : DetNo) (st : DetState) (s : State) : State :=
  s.mapSite fun e => e.setPath p ((e.path p).setDet d { (e.path p).det d with state := st })

/-- A detector fires: it enters FIRED and the path acts on the firing (R102, R103, R105 to R107). -/
def State.fire (p : PathId) (d : DetNo) (s : State) : State :=
  let c := s.site.pathCfg p
  let chan := detChan c d
  let s1 := s.setDetState p d .fired
  match (s.site.path p).detection with
  | .quiet =>
    if c.mode = .any || (s.site.path p).coverage = .degraded then s1.releasePath p chan
    else
      s1.movePath p (fun x =>
        { x with detection := .suspect, confirmTimer := some (s.site.now + sec c.confirmWindow) }) .pathSuspect
        (.chan chan)
  | .suspect => s1.releasePath p chan
  | .released => s1

/-! ## Events from the channels -/

/-- A trip-line detector takes a continuity event (R102): its report comes before that of the coverage (DEDUCED, log 44). -/
def State.triplineEvent (p : PathId) (d : DetNo) (broken found : Bool) (s : State) : State :=
  let chan := detChan (s.site.pathCfg p) d
  match ((s.site.path p).det d).state, broken, found with
  | .ready, true, false => s.fire p d
  | .ready, true, true =>
    ((s.setDetState p d .spent).report .triplineFoundBroken (p.val + 1) (.chan chan)).recover p (some d)
  | .spent, false, _ =>
    ((s.setDetState p d .ready).report .triplineRestored (p.val + 1) (.chan chan)).recover p (some d)
  | _, _, _ => s

/-- The detectors of a path that are of a kind and on a channel, in number order. -/
def detsOn (c : PathCfg) (k : DetKind) (ch : ChanId) : List DetNo :=
  [DetNo.first, DetNo.second].filter fun d =>
    match detOf c d with
    | some x => x.kind == k && x.chan == ch
    | none => false

/-- An event of a channel reaches each detector of an enabled path that is of the kind and on the channel
(R102, R103). Several take it in path number order, each whole (DESIGN CHOICE, log 41). -/
def State.eachDetector (k : DetKind) (ch : ChanId) (f : PathId → DetNo → State → State) (s : State) : State :=
  (List.finRange 8).foldl (fun s p =>
    if (s.site.pathCfg p).enabled then (detsOn (s.site.pathCfg p) k ch).foldl (fun s d => f p d s) s else s) s

/-- A change of a channel's continuity is handed to the paths; it carries the mark found when it leaves UNKNOWN (R62). -/
def State.continuityChanged (c : ChanId) (broken : Bool) (s : State) : State :=
  let found := (s.site.chan c).continuity == .unknown
  let s1 := s.mapSite fun e => e.setChan c { e.chan c with continuity := if broken then .broken else .intact }
  s1.eachDetector .tripline c fun p d s => s.triplineEvent p d broken found

/-- The low width of a LOWWIDTH channel reaches the debounce time (R62). -/
def State.lowReached (c : ChanId) (s : State) : State :=
  if s.site.running && (s.site.chanCfg c).mode = .lowWidth && !s.site.seenHigh c &&
      (s.site.chan c).continuity != .broken then
    s.continuityChanged c true
  else s

/-- The high time of a LOWWIDTH channel reaches 2000 ms (R62). -/
def State.highReached (c : ChanId) (s : State) : State :=
  if s.site.running && (s.site.chanCfg c).mode = .lowWidth && s.site.seenHigh c &&
      (s.site.chan c).continuity != .intact then
    s.continuityChanged c false
  else s

/-- A changed debounce time takes effect at once on the low width in progress (R61). -/
def State.debounceChanged (c : ChanId) (s : State) : State :=
  if s.site.debounce c ≤ s.site.lowMs c then s.lowReached c else s

/-- The sum a seismic detector sees: the newest bins, as many as the smaller of its window and its count of bins since
READY (R103). -/
def Site.seismicSum (e : Site) (p : PathId) (d : DetNo) : Nat :=
  match detOf (e.pathCfg p) d with
  | some x => (e.chan x.chan).windowSum (min x.window ((e.path p).det d).bins)
  | none => 0

/-- A seismic detector takes a bin event (R103). -/
def State.seismicEvent (p : PathId) (d : DetNo) (s : State) : State :=
  let s1 := s.mapSite fun e =>
    e.setPath p ((e.path p).setDet d { (e.path p).det d with bins := min 60 (((e.path p).det d).bins + 1) })
  match detOf (s.site.pathCfg p) d with
  | some x =>
    if ((s1.site.path p).det d).state = .ready && x.threshold ≤ s1.site.seismicSum p d then s1.fire p d else s1
  | none => s1

/-- A COUNT channel's bin closes (R63, R103). -/
def State.binClosed (c : ChanId) (s : State) : State :=
  if s.site.running && (s.site.chanCfg c).mode = .count then
    (s.mapSite fun e => e.setChan c ((e.chan c).closeBin e.now)).eachDetector .seismic c fun p d s => s.seismicEvent p d
  else s

/-! ## Ends of an episode -/

/-- The episode of a detector ends: a FIRED seismic detector enters READY with no bins counted, a FIRED trip-line READY
with its report if its wire is INTACT and SPENT otherwise (R102, R103). -/
def State.endEpisode (p : PathId) (d : DetNo) (s : State) : State :=
  match detOf (s.site.pathCfg p) d with
  | none => s
  | some x =>
    if ((s.site.path p).det d).state = .fired then
      match x.kind with
      | .seismic => s.mapSite fun e => e.setPath p ((e.path p).setDet d { state := .ready, bins := 0 })
      | .tripline =>
        if (s.site.chan x.chan).continuity = .intact then
          (s.setDetState p d .ready).report .triplineRestored (p.val + 1) (.chan x.chan)
        else s.setDetState p d .spent
    else s

/-- The confirm timer of a SUSPECT path expires (R106): end of the episode, coverage, PATH_UNCONFIRMED, then holds and claim
(DEDUCED, log 44). -/
def State.confirmExpired (p : PathId) (s : State) : State :=
  let x := s.site.path p
  if (s.site.pathCfg p).enabled && x.detection = .suspect && x.confirmTimer.isSome then
    let c := s.site.pathCfg p
    let d := firedDet x
    let old := wantsOf c x
    let s1 := (s.mapSite fun e => e.setPath p { e.path p with detection := .quiet, confirmTimer := none }).endEpisode p d
    (((s1.recover p (some d)).report .pathUnconfirmed (p.val + 1) (.chan (detChan c d)))).followPath p old
  else s

/-- The state CLEAR_PATH leaves after its six steps (R109). Step 3 ends the episode of detector 1 before that of detector 2
(DESIGN CHOICE, log 41). -/
def State.clearPath (p : PathId) (s : State) : State :=
  let x := s.site.path p
  let c := s.site.pathCfg p
  let old := wantsOf c x
  let f1 := x.det1.state == .fired
  let f2 := x.det2.state == .fired && c.det2.isSome
  let s1 := s.mapSite fun e =>
    e.setPath p { e.path p with detection := .quiet, confirmTimer := none, declared := false }
  let s2 := (s1.endEpisode p .first).endEpisode p .second
  let zero := fun (d : DetNo) (s : State) =>
    match detOf c d with
    | some y =>
      if y.kind = .seismic then
        s.mapSite fun e => e.setPath p ((e.path p).setDet d { (e.path p).det d with bins := 0 })
      else s
    | none => s
  let s3 := (zero .second (zero .first s2)).followPath p old
  let cause := match f1, f2 with
    | true, false => some DetNo.first
    | false, true => some DetNo.second
    | _, _ => none
  let s4 := s3.recover p cause
  if x.detection = .quiet && !x.declared then s4
  else s4.report .pathCleared (p.val + 1) (.detection x.detection)

/-- DECLARE_HAZARD accepted (R108): a repeat with the same option changes nothing. -/
def State.declare (p : PathId) (close : Bool) (s : State) : State :=
  let x := s.site.path p
  if x.declared && x.closeOption = close then s
  else s.movePath p (fun y => { y with declared := true, closeOption := close }) .hazardDeclared (.close close)

end Sys2Proof.Machine
end

