-- ==== Sys2Proof/Machine/Weather.lean ====
section
/-! DEFINITION. The Weather Acquisition Unit: scaling and fault bands, sample rings, wind samples, and the table of 22
quantities (R69 to R82). -/

namespace Sys2Proof.Machine

/-! ## One analog input -/

/-- A code in one of the sensor fault bands (R71). -/
def inFaultBand (code : Nat) : Bool := decide (code ≤ 8) || decide (4087 ≤ code)

/-- A good sample: scaled by the calibration pair and clamped to the range of its quantity (R71). -/
def scaleCode (cal : Calibration) (range : Int × Int) (code : Nat) : Int :=
  clampInt range.1 range.2 (cal.lo + roundDiv ((code : Int) * (cal.hi - cal.lo)) 4095)

/-- What one completion does to an input's ring and fault flag, with the report it queues, if any (R72, R73). -/
def Analog.take (x : Analog) (code : Nat) (value : Int) : Analog × Option (ReportKind × Int) :=
  if inFaultBand code then
    if x.fault then (x, none) else ({ x with fault := true }, some (.sensorFault, code))
  else if x.fault then ({ ring := [value], fault := false }, some (.sensorRestored, value))
  else ({ x with ring := (value :: x.ring).take 8 }, none)

/-- The direct quantity of an analog input (R72, R74). -/
def Analog.quantity (x : Analog) : Quantity :=
  if x.ring.isEmpty then {} else { value := ringMean x.ring, quality := if x.fault then .stale else .good }

/-! ## The sensors of a station -/

/-- The three analog sensors of a station (R66). -/
inductive Sensor | air | surf | rh
  deriving DecidableEq, Repr

/-- The input a station record names for a sensor. -/
def sensorInput (c : StationCfg) : Sensor → Option (Fin 9)
  | .air => c.airInput
  | .surf => c.surfInput
  | .rh => c.rhInput

/-- The calibration pair of a sensor. -/
def sensorCal (c : StationCfg) : Sensor → Calibration
  | .air => c.airCal
  | .surf => c.surfCal
  | .rh => c.rhCal

/-- The range of a sensor's quantity (R71). -/
def sensorRange : Sensor → Int × Int
  | .air | .surf => (-500, 500)
  | .rh => (0, 1000)

/-- The ring and flag of a sensor. -/
def Station.sensor (x : Station) : Sensor → Analog
  | .air => x.air
  | .surf => x.surf
  | .rh => x.rh

/-- The ring and flag of a sensor are set. -/
def Station.setSensor (x : Station) (k : Sensor) (a : Analog) : Station :=
  match k with
  | .air => { x with air := a }
  | .surf => { x with surf := a }
  | .rh => { x with rh := a }

/-- The analog input of a station input. -/
def inputOf (i : Fin 9) : InputId := ⟨i.val, by omega⟩

/-- The SENSOR_FAULT or SENSOR_RESTORED report of an input, if one is queued (R73). -/
def State.sensorReport (i : InputId) (x : Option (ReportKind × Int)) (s : State) : State :=
  match x with
  | some (k, v) => s.report k i.val (.number v)
  | none => s

/-- Steps 1 and 3 of a completion for one sensor (R69). -/
def State.sampleSensor (w : StationId) (k : Sensor) (s : State) : State :=
  let c := s.site.stationCfg w
  match sensorInput c k with
  | none => s
  | some i =>
    let code := s.site.codes[inputOf i]
    let r := ((s.site.station w).sensor k).take code (scaleCode (sensorCal c k) (sensorRange k) code)
    (s.mapSite fun e => e.setStation w ((e.station w).setSensor k r.1)).sensorReport (inputOf i) r.2

/-- Steps 1 and 3 of a completion for A9 (R82). -/
def State.sampleSupply (s : State) : State :=
  let code := s.site.codes[(9 : Fin 10)]
  let r := s.site.supplyIn.take code (scaleCode s.site.cfg.supply.cal (0, 3000) code)
  (s.mapSite fun e => { e with supplyIn := r.1 }).sensorReport 9 r.2

/-! ## Wind -/

/-- The wind sample of a period, in tenths of a metre per second (R75): a LONG period gives 0. -/
def periodWind (k : Nat) (p : Period) : Nat :=
  match p.ticks with
  | some t =>
    min 750 (roundDiv ((p.edges.number * k * 10000 : Nat) : Int) (t * p.rate.division)).toNat
  | none => 0

/-- The wind sample and outcome of a completion for a channel in PERIOD mode (R75, R76). -/
def windSample (now k : Nat) (x : Channel) : Option Nat × WindOutcome :=
  let calm : Option Nat × WindOutcome :=
    if sec 4 ≤ now - x.restartedAt then (some 0, .calm) else (none, .skipped)
  match x.latest with
  | some p => if now - p.completed ≤ sec 4 then (some (periodWind k p), .sample) else calm
  | none => calm

/-- A wind ring after a sample, 120 at most (R77). -/
def windJoin (ring : List Nat) : Option Nat → List Nat
  | some v => (v :: ring).take 120
  | none => ring

/-- Steps 2 and 3 of a completion for one station (R69, R76). -/
def Site.sampleWind (w : StationId) (e : Site) : Site :=
  match (e.stationCfg w).wind with
  | none => e
  | some c =>
    let x := e.station w
    if (e.chanCfg c).mode = .period then
      let r := windSample e.now (e.stationCfg w).k (e.chan c)
      e.setStation w { x with windRing := windJoin x.windRing r.1, windOutcome := r.2 }
    else e.setStation w { x with windRing := [], windOutcome := .notPeriod }

/-- Mean of wind samples (R77, R78). -/
def windMean (l : List Nat) : Int := roundDiv ((l.sum : Nat) : Int) l.length

/-- The running means of three consecutive samples (R78). -/
def runMeans : List Nat → List Int
  | a :: b :: c :: rest => roundDiv ((a + b + c : Nat) : Int) 3 :: runMeans (b :: c :: rest)
  | _ => []

/-- GUST from the 60 newest samples (R78). -/
def gustOf (ring : List Nat) : Int :=
  let l := ring.take 60
  if l.length < 3 then windMean l else (runMeans l).foldl max 0

/-! ## The table -/

/-- The worse of two qualities (R74). -/
def Quality.worst : Quality → Quality → Quality
  | .absent, _ | _, .absent => .absent
  | .stale, _ | _, .stale => .stale
  | .good, .good => .good

/-- A derived quantity: 0 when ABSENT (R74). -/
def derived (q : Quality) (v : Int) : Quantity := if q = .absent then {} else { value := v, quality := q }

/-- The direct quantity of a sensor. -/
def Site.direct (e : Site) (w : StationId) (k : Sensor) : Quantity :=
  if (sensorInput (e.stationCfg w) k).isSome then ((e.station w).sensor k).quantity else {}

/-- A wind quantity: ABSENT without a channel in PERIOD mode or without samples (R74). -/
def Site.windQuantity (e : Site) (w : StationId) (f : List Nat → Int) : Quantity :=
  match (e.stationCfg w).wind with
  | none => {}
  | some c =>
    if (e.chanCfg c).mode = .period && !(e.station w).windRing.isEmpty then
      { value := f (e.station w).windRing, quality := .good }
    else {}

/-- DEW from AIR and RH (R79). -/
def dewOf (air rh : Quantity) : Quantity :=
  derived (air.quality.worst rh.quality) (clampInt (-500) 500 (air.value - roundDiv (1000 - rh.value) 5))

/-- FROST from SURF and DEW (R80). -/
def frostOf (surf dew : Quantity) : Quantity :=
  derived (surf.quality.worst dew.quality) (clampInt (-999) 999 (surf.value - dew.value))

/-- The quantity a completion publishes (R69 step 4). -/
def Site.measure (e : Site) : Quant → Quantity
  | .station w .air => e.direct w .air
  | .station w .surf => e.direct w .surf
  | .station w .rh => e.direct w .rh
  | .station w .dew => dewOf (e.direct w .air) (e.direct w .rh)
  | .station w .frost => frostOf (e.direct w .surf) (dewOf (e.direct w .air) (e.direct w .rh))
  | .station w .wind => e.windQuantity w windMean
  | .station w .gust => e.windQuantity w gustOf
  | .supply => e.supplyIn.quantity

/-- The kind at a position of a station's seven quantities (R81). -/
def kindAt : Nat → QKind
  | 0 => .air
  | 1 => .surf
  | 2 => .rh
  | 3 => .dew
  | 4 => .frost
  | 5 => .wind
  | _ => .gust

/-- The quantity at a position of the table (R81). -/
def quantAt (i : Fin 22) : Quant := if i.val = 21 then .supply else .station (Fin.ofNat 3 (i.val / 7)) (kindAt (i.val % 7))

/-- All 22 quantities are published as one table (R70). -/
def Site.publish (e : Site) : Site := { e with table := Vector.ofFn fun i => e.measure (quantAt i) }

/-- Steps 1 to 4 of a sample completion (R69; the order of the inputs: log 17). -/
def State.measureAll (s : State) : State :=
  let s1 := (List.finRange 3).foldl (fun s w =>
    ((s.sampleSensor w .air).sampleSensor w .surf).sampleSensor w .rh) s
  let s2 := s1.sampleSupply
  s2.mapSite fun e => ((List.finRange 3).foldl (fun e w => e.sampleWind w) e).publish

/-- The seven quantities of a station become ABSENT (R68). -/
def Site.absentStation (w : StationId) (e : Site) : Site :=
  { e with table := Vector.ofFn fun i =>
      match quantAt i with
      | .station v _ => if v = w then {} else e.table[i]
      | .supply => e.table[i] }

/-- SUPPLY becomes ABSENT (R82). -/
def Site.absentSupply (e : Site) : Site := { e with table := e.table.set 21 {} }

end Sys2Proof.Machine
end

