-- ==== Sys2Proof/Machine/Triggers.lean ====
section
/-! DEFINITION. The Trigger Evaluator: classing of samples, the moves of a trigger, and its actions (R90 to R97). -/

namespace Sys2Proof.Machine

/-- A trigger in ACTIVE or FALLING stands (R87). -/
def TrigState.stands : TrigState → Bool
  | .active | .falling => true
  | _ => false

/-- A GOOD value meets the set condition (R91). -/
def meetsSet (c : TriggerCfg) (v : Int) : Bool :=
  match c.relation with
  | .above => decide (c.setLevel ≤ v)
  | .below => decide (v ≤ c.setLevel)

/-- A GOOD value meets the clear condition (R91). -/
def meetsClear (c : TriggerCfg) (v : Int) : Bool :=
  match c.relation with
  | .above => decide (v ≤ c.clearLevel)
  | .below => decide (c.clearLevel ≤ v)

/-- The move of a trigger on a GOOD sample (R92): its state and count. -/
def goodMove (c : TriggerCfg) (st : TrigState) (n : Nat) (v : Int) : TrigState × Nat :=
  match st with
  | .disabled => (.disabled, 0)
  | .armed =>
    if meetsSet c v then if c.setCount ≤ 1 then (.active, 0) else (.rising, 1) else (.armed, 0)
  | .rising =>
    if meetsSet c v then if c.setCount ≤ n + 1 then (.active, 0) else (.rising, n + 1) else (.armed, 0)
  | .active =>
    if meetsClear c v then if c.clearCount ≤ 1 then (.armed, 0) else (.falling, 1) else (.active, 0)
  | .falling =>
    if meetsClear c v then if c.clearCount ≤ n + 1 then (.armed, 0) else (.falling, n + 1) else (.active, 0)

/-- The move of a trigger on a sample of any quality (R92 to R94). -/
def sampleMove (c : TriggerCfg) (st : TrigState) (n : Nat) (q : Quantity) : TrigState × Nat :=
  match q.quality with
  | .good => goodMove c st n q.value
  | .stale => (st, n)
  | .absent => (.armed, 0)

/-- Cause of a clearing by a sample (R97). -/
def clearCauseOf (q : Quantity) : ClearCause := if q.quality = .absent then .sourceAbsent else .samples

/-- The claim of a trigger (R95). -/
def advisoryClaim (k : TrigId) (c : TriggerCfg) : Claim :=
  { source := .trigger k, cls := .advisory, template := c.template }

/-- The actions on entering ACTIVE (R95). -/
def State.trigActs (k : TrigId) (c : TriggerCfg) (s : State) : State :=
  let s1 := s.raiseAll c.segments (.trigger k)
  let s2 := if c.template = 0 then s1 else s1.postAll c.signs (advisoryClaim k c)
  s2.report .triggerActive (k.val + 1) (.reason c.reason)

/-- The reverse actions on leaving ACTIVE or FALLING for ARMED (R95). -/
def State.trigReverts (k : TrigId) (c : TriggerCfg) (cause : ClearCause) (s : State) : State :=
  ((s.dropAll c.segments (.trigger k)).withdrawAll c.signs (.trigger k)).report .triggerCleared (k.val + 1)
    (.clearCause cause)

/-- One evaluation of a trigger, with its actions (R90). -/
def State.evalTrigger (k : TrigId) (s : State) : State :=
  let c := s.site.trigCfg k
  if !c.enabled then s
  else
    let q := s.site.quantity c.source
    let old := s.site.trigger k
    let m := sampleMove c old.state old.count q
    let s1 := s.mapSite fun e => e.setTrigger k { state := m.1, count := m.2, latest := some q }
    match old.state.stands, m.1.stands with
    | false, true => s1.trigActs k c
    | true, false => s1.trigReverts k c (clearCauseOf q)
    | _, _ => s1

/-- A publication: the enabled triggers whose source was published, lowest number first, each completed before the next
(R90). -/
def State.evalTriggers (published : Quant → Bool) (s : State) : State :=
  (List.finRange 24).foldl (fun s k => if published (s.site.trigCfg k).source then s.evalTrigger k else s) s

/-- The quantities of a station. -/
def ofStation (w : StationId) : Quant → Bool
  | .station v _ => v == w
  | .supply => false

/-- SUPPLY alone. -/
def onlySupply : Quant → Bool
  | .supply => true
  | .station _ _ => false

/-- The restart of a trigger by a rewrite, under the record before (R89). -/
def State.restartTrigger (k : TrigId) (c : TriggerCfg) (s : State) : State :=
  let s1 :=
    if (s.site.trigger k).state.stands then s.trigReverts k (s.site.trigCfg k) .rewrite else s
  s1.mapSite fun e =>
    ({ e with cfg := { e.cfg with triggers := e.cfg.triggers.set k c } }).setTrigger k
      { state := if c.enabled then .armed else .disabled }

end Sys2Proof.Machine
end

