-- ==== Sys2Proof/Machine/Supply.lean ====
section
/-! DEFINITION. The Supply Monitor: evaluation of a SUPPLY publication, and what a stage change does at its readers (R171
to R175). -/

namespace Sys2Proof.Machine

/-- The stage set directly from the first settled value (R172). -/
def directStage (c : SupplyCfg) (v : Int) : Stage :=
  if v < c.resEnter then .reserve else if v < c.ecoEnter then .economy else .normal

/-- The stage and counts of the Supply Monitor. -/
structure Counts where
  stage : Stage
  fall : Nat
  deep : Nat
  rise : Nat
  deriving DecidableEq, Repr

/-- A count of consecutive samples. -/
def consecutive (b : Bool) (n : Nat) : Nat := if b then n + 1 else 0

/-- A GOOD sample moves the counts and may complete a fall or a rise (R173, R174). -/
def supplyMove (c : SupplyCfg) (x : Counts) (v : Int) : Counts :=
  match x.stage with
  | .normal =>
    let f := consecutive (decide (v < c.ecoEnter)) x.fall
    let d := consecutive (decide (v < c.resEnter)) x.deep
    if 10 ≤ d then { stage := .reserve, fall := 0, deep := 0, rise := 0 }
    else if 10 ≤ f then { stage := .economy, fall := d, deep := 0, rise := 0 }
    else { stage := .normal, fall := f, deep := d, rise := 0 }
  | .economy =>
    let f := consecutive (decide (v < c.resEnter)) x.fall
    let u := consecutive (decide (c.ecoLeave ≤ v)) x.rise
    if 10 ≤ f then { stage := .reserve, fall := 0, deep := 0, rise := 0 }
    else if 60 ≤ u then { stage := .normal, fall := 0, deep := 0, rise := 0 }
    else { stage := .economy, fall := f, deep := 0, rise := u }
  | .reserve =>
    let u := consecutive (decide (c.resLeave ≤ v)) x.rise
    if 60 ≤ u then { stage := .economy, fall := 0, deep := 0, rise := 0 }
    else { stage := .reserve, fall := 0, deep := 0, rise := u }

/-- The Supply Monitor at a publication of SUPPLY (R172). -/
def Site.supplyEval (e : Site) : Site :=
  let q := e.quantity .supply
  if q.quality ≠ .good then e
  else if !e.established then
    if e.supplyIn.ring.length < 8 then e
    else { e with established := true, stage := directStage e.cfg.supply q.value, fall := 0, deep := 0, rise := 0 }
  else
    let x := supplyMove e.cfg.supply { stage := e.stage, fall := e.fall, deep := e.deep, rise := e.rise } q.value
    { e with stage := x.stage, fall := x.fall, deep := x.deep, rise := x.rise }

/-! ## Readers of a stage change (R175) -/

/-- The GDU: on a rise the arbiter evaluates at once (R33). -/
def gatesTakeStage (e : Site) (tell : Listener) (old : Stage) (r : Road) : Road :=
  if old.permits < e.stage.permits then permits e tell r else r

/-- The SCR (R141). -/
def signsTakeStage (e : Site) (tell : Listener) (r : Road) : Road :=
  renderAll e tell (if e.stage = .reserve then abandonReserved e (discardBlankable e r) else r)

/-- A head polled at the poll interval whose time since its latest transaction has passed it falls due (R159). One that is due already
stays due when the stage falls: the moment it fell due is kept until it is polled, and the longer wait is taken to be that of
heads not yet due (DESIGN CHOICE, log 42). -/
def dueByStage (e : Site) (h : SignId) (r : Road) : Road :=
  match e.dueAt (r.head h) with
  | some t => if t ≤ e.now then fallDue e h r else r
  | none => r

/-- The SLM (R159); a head due before a fall stays due (DESIGN CHOICE, log 42). -/
def linkTakesStage (e : Site) (r : Road) : Road :=
  linkArbitrate e ((List.finRange 16).foldl (fun r h => dueByStage e h r) r)

/-- The stage change is reported and handed to its readers (R175). R175 does not order the readers: the model takes the gates, the
signs, the link and the beacons, each whole (DESIGN CHOICE, log 43). -/
def State.stageChanged (old : Stage) (s : State) : State :=
  let s1 := s.report .supplyStage 0 (.stage s.site.stage)
  let s2 := s1.react fun e r =>
    linkTakesStage e (signsTakeStage e (listener e) (gatesTakeStage e (listener e) old r))
  s2.mapSite fun e => (List.finRange 8).foldl (fun e p => e.latchBeacon p) e

/-- The Supply Monitor evaluates; a stage change is taken whole (R172, R175). -/
def State.supplyEval (s : State) : State :=
  let s1 := s.mapSite Site.supplyEval
  if s1.site.stage = s.site.stage then s1 else s1.stageChanged s.site.stage

end Sys2Proof.Machine
end

