-- ==== Sys2Proof/Machine/Start.lean ====
section
/-! DEFINITION. Resets, LOADING and its end: what a reset keeps, the reading of the image, and how each block takes up
the working configuration (R23, R48, R64, R84, R98, R115, R126, R144, R162, R177 to R179). -/

namespace Sys2Proof.Machine

/-! ## What a reset leaves -/

/-- The input levels of a gate, all else at its value after a reset (R48). -/
def Gate.pins (x : Gate) : Gate :=
  { upLimit := x.upLimit, downLimit := x.downLimit, presence := x.presence, trip := x.trip }

/-- The part of Site that outlives a reset: the reference, the pins, the clock and the image (R117, R170, R177; log 30). -/
def Site.afterReset (e : Site) : Site :=
  { now := e.now, phase := .held, powerGood := e.powerGood, resetLow := e.resetLow, strap1 := e.strap1
    strap2 := e.strap2, lineRate := e.lineRate, startCause := e.startCause, powerSinceRun := e.powerSinceRun
    clock := e.clock, secondEnd := e.secondEnd, image := e.image
    channels := e.channels.map fun x => { pin := x.pin } }

/-- The part of Road that outlives a reset: the template slots and the gates' pins (R164, R185). -/
def Road.afterReset (r : Road) : Road := { slots := r.slots, gates := r.gates.map Gate.pins }

/-- The part is held in reset: outputs off, ATTN deasserted (R177). -/
def State.hold (s : State) : State := { s with site := s.site.afterReset, road := s.road.afterReset }

/-- The corridor clock is UNSET (R117). -/
def Site.loseClock (e : Site) : Site := { e with clock := none, secondEnd := none }

/-- The line rate of the straps (R179). -/
def strapRate : Bool → Bool → LineRate
  | false, false => .baud9600
  | true, false => .baud19200
  | false, true => .baud57600
  | true, true => .baud115200

/-- The image becomes the working configuration, or the all-disabled configuration does, with a STORE_FAULT report (R178
step 2). -/
def State.readImage (s : State) : State :=
  if s.site.image.state = .valid && s.site.image.intact then
    s.mapSite fun e => { e with cfg := e.image.records }
  else (s.mapSite fun e => { e with cfg := .allDisabled }).report .storeFault 0 .config

/-- LOADING starts after a reset of a kind: straps, start cause, START report, image (R177 to R179). -/
def State.startLoading (kind : StartCause) (s : State) : State :=
  let s1 := s.hold.mapSite fun e =>
    { e with phase := .loading, lineRate := strapRate e.strap1 e.strap2
             startCause := if e.powerSinceRun then .power else kind }
  (s1.report .start 0 (.startCause s1.site.startCause)).readImage

/-! ## The end of LOADING -/

/-- Every slot is checked, in slot order (R164). -/
def checkSlots (e : Site) (r : Road) : Road :=
  (List.finRange 96).foldl (fun r n =>
    match r.slots[n] with
    | .writing _ => spoilSlot e n r
    | .valid _ false => spoilSlot e n r
    | _ => r) r

/-- A gate takes its state from its limits (R27, R48). -/
def gateStart (e : Site) (g : GateId) (r : Road) : Road :=
  if (e.gateCfg g).enabled then
    match (r.gate g).rest with
    | .conflict => setFaulted e g .limitConflict r
    | x => r.onGate g fun y => { y with state := x.followed }
  else r.onGate g fun y => { y with state := y.rest.followed }

/-- The state a segment starts in (R23). -/
def startState (e : Site) (r : Road) (s : SegId) : SegState :=
  if (e.segCfg s).enabled && !(guards e s).all (fun g => (r.gate g).state == .up) then .closed else .open

/-- The hold sets a start leaves: RESTART on each segment found not open (R23). -/
def Site.restartHolds (e : Site) (r : Road) : Site :=
  { e with holds := Vector.ofFn fun s => if startState e r s = .closed then { restart := true } else {} }

/-- One segment is set at the end of LOADING (R23): an enabled one reports its state, each guard gate takes the target the
state calls for (R4, R6, R26), and a CLOSED one posts its claim and acts on its FAULTED gates, in that order (DEDUCED, log 44). -/
def segmentStart (e : Site) (s : SegId) (r : Road) : Road :=
  let st := startState e r s
  let r1 := if (e.segCfg s).enabled then moveSegment e s st r else r
  let r2 := (guards e s).foldl (fun r g => r.onGate g fun x => { x with target := some st.target }) r1
  match st with
  | .closed => markUnguarded e s (guardsIn e s .faulted r2)
      (postAll e (listener e) (e.segCfg s).noticeSet (closureClaim e s) r2)
  | _ => r2

/-- A gate whose state does not match its target, or an enabled gate in UNKNOWN, joins the queue (R48). -/
def joinAtStart (e : Site) (g : GateId) (r : Road) : Road :=
  if (e.gateCfg g).enabled then
    match (r.gate g).state, (r.gate g).target with
    | .unknown, some d => joinQueue g d r
    | .up, some .down => joinQueue g .down r
    | .down, some .up => joinQueue g .up r
    | _, _ => r
  else r

/-- Segments, then the queue in gate number order, then the arbiter (R23, R48). The segments come in number order, each with
its SEGMENT_STATE and SEGMENT_UNGUARDED reports together (DESIGN CHOICE, log 41). -/
def roadStart (e : Site) (r : Road) : Road :=
  let r1 := (List.finRange 6).foldl (fun r s => segmentStart e s r) r
  permits e (listener e) ((List.finRange 8).foldl (fun r g => joinAtStart e g r) r1)

/-- Timebases, the start of a beacon cycle or FREE, and every channel (R64). -/
def Site.captureStart (e : Site) : Site :=
  let e1 := { e with tbZero := Vector.replicate 4 e.now, slot := 0 }
  let e2 := (List.finRange 12).foldl (fun e c => e.restartChannel c) e1
  if e2.t3Free then e2.freeBeacons else e2.slotEvent

/-- Triggers restart in ARMED or DISABLED (R98); the sample period starts (R84); the supply stage is NORMAL, not
established (R172). -/
def Site.measureStart (e : Site) : Site :=
  { e with
    triggers := e.cfg.triggers.map fun c => { state := if c.enabled then .armed else .disabled }
    sampleEnd := some (e.now + sec 1), rerenderAt := some (e.now + sec 30) }

/-- The coverage of every path is worked out, with a report where it is not FULL (R115), in number order
(DESIGN CHOICE, log 41). -/
def State.pathsStart (s : State) : State := (List.finRange 8).foldl (fun s p => s.recover p none) s

/-- A head link record at the start: an enabled head enters PROBING and is due at once (R162; log 10). -/
def headStart (e : Site) (h : SignId) (r : Road) : Road :=
  let r1 := r.onHead h fun x => { x with lastEnd := e.now }
  if (e.signCfg h).enabled then setLink e (listener e) h .probing .stall r1 else r1

/-- Head link records, then one rendering of every enabled sign, ATTN, and the link arbiter (R144, R162, R187).
The HEAD_LINK_STATE reports come by address (DESIGN CHOICE, log 41). -/
def signsStart (e : Site) (r : Road) : Road :=
  let r1 := (List.finRange 16).foldl (fun r h => headStart e h r) r
  linkArbitrate e ((renderAll e (listener e) r1).evalAttn e)

/-- The end of LOADING (R178 steps 3 and 4; the order of the blocks: log 14; of the gates and
their GATE_FAULT reports, by number: DESIGN CHOICE, log 41). -/
def State.endLoading (s : State) : State :=
  let s1 := s.react fun e r => (List.finRange 8).foldl (fun r g => gateStart e g r) (checkSlots e r)
  let s2 := s1.mapSite fun e => e.restartHolds s1.road
  let s3 := s2.react roadStart
  let s4 := (s3.mapSite fun e => e.captureStart.measureStart).pathsStart
  let s5 := s4.recomputeAll
  let s6 := s5.mapSite fun e => { e with phase := .running, powerSinceRun := false }
  s6.react signsStart

end Sys2Proof.Machine
end

