-- ==== Sys2Proof/Machine/Views.lean ====
section
/-! DEFINITION. What the status requests read: the content of each OK reply as the state stands (R25, R49, R65, R86, R99,
R116, R127, R145, R163, R176, R183, R184). -/

namespace Sys2Proof.Machine

/-- Whole seconds left of a timer, rounded up, or none when it is stopped (R49). -/
def secondsLeft (now : Nat) (t : Option Nat) : Option Nat := t.map fun x => ceilDiv (x - now) (sec 1)

/-- Milliseconds left of a timer, rounded by the Conventions, or none when it is stopped (R49). -/
def msLeft (now : Nat) (t : Option Nat) : Option Nat := t.map fun x => nearest (x - now) (ms 1)

/-- GET_IDENTITY (R183). -/
def identityView (s : State) : IdentityView :=
  { part := "WPC-816", revision := Config.siliconRevision, phase := s.site.phase, cause := s.site.startCause, rate := s.site.lineRate
    image := s.site.image.state, storeOp := s.site.storeOp }

/-- Seconds left of a pass, rounded by the Conventions; the whole duration while WAITING (DESIGN CHOICE, log 31). -/
def passLeft (now : Nat) : Pass → Nat
  | .idle => 0
  | .waiting d => d
  | .running _ t => nearest (t - now) (sec 1)

/-- GET_SEGMENT (R25). -/
def segmentView (s : State) (n : SegId) : SegmentView :=
  let x := s.road.segment n
  let now := s.site.now
  { cfg := s.site.segCfg n, state := x.state, holds := s.site.hold n, guards := guards s.site n
    noticeLeft := timeLeft now (sec 1) x.noticeTimer, sweepLeft := timeLeft now (sec 1) x.sweepTimer
    unguarded := x.unguarded, noticeIncomplete := x.noticeIncomplete
    passes := (guards s.site n).map fun g => { gate := g, pass := s.road.pass g, left := passLeft now (s.road.pass g) } }

/-- Position in the drive permit queue: 0 when not queued, 1 for the oldest entry (R49). -/
def queuePosition (q : List GateId) (g : GateId) : Nat := if q.contains g then q.idxOf g + 1 else 0

/-- GET_GATE (R49). -/
def gateView (s : State) (g : GateId) : GateView :=
  let x := s.road.gate g
  let now := s.site.now
  { cfg := s.site.gateCfg g, state := x.state, target := x.target, fault := x.fault, upLimit := x.upLimit
    downLimit := x.downLimit, presence := x.presence, trip := x.trip, retryCount := x.retryCount, permit := x.permit
    queuePos := queuePosition s.road.queue g, duty := x.duty, travelLeft := secondsLeft now x.travelTimer
    pauseLeft := msLeft now x.pauseTimer, holdOffLeft := msLeft now x.holdOffTimer
    retryLeft := msLeft now x.retryTimer, displaceLeft := msLeft now x.displaceTimer }

/-- The step of a transaction in progress to a head (R163). While the ignored exchange of a rewritten head runs out, the step
it was in is still shown (DESIGN CHOICE, log 29). -/
def stepInProgress (r : Road) (h : SignId) : Option Step :=
  match r.link with
  | some t => if t.head = h then some t.step else none
  | none => none

/-- Milliseconds until a head next falls due, rounded by the Conventions and stopping at 65,535; 0 when due, none in
UNCONFIGURED (R163). While the head's own POLL or LOAD goes on past its interval, 0 too, though the head is not due then
(DESIGN CHOICE, log 31). -/
def dueIn (e : Site) (x : Head) : Option Nat :=
  match x.due with
  | some _ => some 0
  | none => (e.dueAt x).map fun t => min 65535 (nearest (t - e.now) (ms 1))

/-- GET_SIGN (R145, R163). The shown claim is given by its source alone: its class and template stand in the head of the claim
list, which is that claim (DESIGN CHOICE, log 31). -/
def signView (s : State) (h : SignId) : SignView :=
  let x := s.road.sign h
  let y := s.road.head h
  { cfg := s.site.signCfg h, claims := x.claims, shown := (s.road.shown h).map (·.source)
    pending := x.pending.map (·.page), sent := x.sent, confirmed := x.confirmed, link := y.link, toggle := y.toggle
    missed := y.missed, naks := y.naks, nextTag := y.nextTag, status := y.status
    inProgress := stepInProgress s.road h, dueIn := dueIn s.site y
    sinceLast := min 65535 (nearest (s.site.now - y.lastEnd) (ms 1)) }

/-- A detector as GET_PATH shows it (R116). On a channel that is not in the mode of the detector's kind a trip-line shows UNKNOWN
and a seismic detector the sum 0 (DESIGN CHOICE, log 31). -/
def detectorView (e : Site) (p : PathId) (d : DetNo) (c : Detector) : DetectorView :=
  { state := ((e.path p).det d).state, usable := e.usable p d
    reading := match c.kind with
      | .tripline => .tripline (e.chan c.chan).continuity
      | .seismic => .seismic (e.seismicSum p d) ((e.path p).det d).bins }

/-- GET_PATH (R116). -/
def pathView (s : State) (p : PathId) : PathView :=
  let e := s.site
  let c := e.pathCfg p
  let x := e.path p
  { path := p, cfg := c, detection := x.detection, declared := x.declared, closeOption := x.closeOption
    confirmLeft := timeLeft e.now (sec 1) x.confirmTimer, coverage := x.coverage
    det1 := detectorView e p .first c.det1, det2 := c.det2.map (detectorView e p .second)
    holdPath := (e.hold c.crossing).has (.path p), holdHazard := (e.hold c.crossing).has (.hazard p)
    claimSigns := claimedSigns s.road c.signs (.path p), pattern := (wantsOf c x).pattern, wanted := x.wanted
    active := x.active, lit := x.lit }

/-- The segments of a set that are enabled (R99, R127). -/
def enabledSegs (e : Site) (set : SegSet) : SegSet := segSetOf fun s => hasSeg set s && (e.segCfg s).enabled

/-- GET_TRIGGER (R99). -/
def triggerView (s : State) (k : TrigId) : TriggerView :=
  let c := s.site.trigCfg k
  let x := s.site.trigger k
  { cfg := c, state := x.state, count := x.count, latest := x.latest, stands := x.state.stands
    holdSegments := if x.state.stands then enabledSegs s.site c.segments else 0
    claimSigns := if x.state.stands then claimedSigns s.road c.signs (.trigger k) else 0 }

/-- GET_SCHEDULE (R127). -/
def scheduleView (s : State) (n : EntryId) : ScheduleView :=
  let c := s.site.entryCfg n
  let st := s.site.entry n
  { cfg := c, state := st, holdSegments := if st = .closing then enabledSegs s.site c.segments else 0
    claimSigns := claimedSigns s.road c.signs (.schedule n), nextChange := nextChange s.site c st }

/-- GET_SUPPLY (R176). -/
def supplyView (s : State) : SupplyView :=
  let e := s.site
  { cfg := e.cfg.supply, supply := e.quantity .supply, samples := e.supplyIn.ring.length, stage := e.stage
    established := e.established, fall := e.fall, deep := e.deep, rise := e.rise, permitCount := e.stage.permits
    holders := s.road.holders, cap := e.stage.cap, pollInterval := e.stage.pollInterval }

/-! ## GET_RECORD -/

/-- Measurement status of a channel (R65). -/
def channelStatus (e : Site) (c : ChanId) : RecordStatus :=
  let x := e.chan c
  match (e.chanCfg c).mode with
  | .off => .channelOff
  | .period =>
    .channelPeriod x.edgeCount x.reference.isSome (x.latest.map (·.ticks))
      (x.latest.map fun p => min 65535 (nearest (e.now - p.completed) (ms 1)))
  | .lowWidth => .channelLowWidth (e.seenHigh c) (e.lowMs c) (e.highMs c) x.continuity
  | .count => .channelCount x.bin x.bins.length x.bins

/-- Measurement status of an analog input that a station names (R86). -/
def analogStatus (e : Site) (i : Option (Fin 9)) (x : Analog) : Option AnalogStatus :=
  i.map fun i => { code := e.codes[inputOf i], samples := x.ring.length, fault := x.fault }

/-- Measurement status of a station (R86); the latest wind sample is the newest of the ring. -/
def stationStatus (e : Site) (w : StationId) : RecordStatus :=
  let c := e.stationCfg w
  let x := e.station w
  .station (analogStatus e c.airInput x.air) (analogStatus e c.surfInput x.surf) (analogStatus e c.rhInput x.rh)
    (c.wind.map fun _ => { samples := x.windRing.length, latest := x.windRing.head?, outcome := x.windOutcome })

/-- The record a kind code and index name (R184): none for a kind outside the table, some none for an index outside its
range. -/
def recordView (s : State) (kind n : Nat) : Option (Option ReplyBody) :=
  let e := s.site
  match kind with
  | 0 => some ((index1 6 n).map fun i => .record n (.segment (e.segCfg i)) .none)
  | 1 => some ((index1 8 n).map fun i => .record n (.gate (e.gateCfg i)) .none)
  | 2 => some ((index1 16 n).map fun i => .record n (.sign (e.signCfg i)) .none)
  | 3 => some ((index0 4 n).map fun i =>
      .record n (.timebase (e.tbCfg i)) (.timebase (e.tbCount i) (if i = 3 then some e.slot else none)))
  | 4 => some ((index0 12 n).map fun i => .record n (.channel (e.chanCfg i)) (channelStatus e i))
  | 5 => some ((index1 3 n).map fun i => .record n (.station (e.stationCfg i)) (stationStatus e i))
  | 6 => some ((index1 24 n).map fun i => .record n (.trigger (e.trigCfg i)) .none)
  | 7 => some ((index1 8 n).map fun i => .record n (.path (e.pathCfg i)) .none)
  | 8 => some ((index1 16 n).map fun i => .record n (.schedule (e.entryCfg i)) .none)
  | 9 => some (if n = 0 then some (.record n (.supply e.cfg.supply) .none) else none)
  | 10 => some (if n = 0 then some (.record n (.zone e.cfg.zone) .none) else none)
  | 11 => some (if n = 0 then some (.record n (.attention e.cfg.attention) .none) else none)
  | _ => none

end Sys2Proof.Machine
end

