-- ==== Sys2Proof/Machine/Records.lean ====
section
/-! DEFINITION. What an accepted configuration write does, record by record (R2 to R4, R28, R51 to R54, R56, R68, R82, R89,
R101, R120, R122, R129, R161, R171, R184). -/

namespace Sys2Proof.Machine

/-- A change of the working configuration. -/
def Site.configure (f : WorkingConfig → WorkingConfig) (e : Site) : Site := { e with cfg := f e.cfg }

/-! ## Segments -/

/-- An enabled path names the segment as its crossing segment (R3). -/
def crossed (e : Site) (n : SegId) : Bool :=
  (List.finRange 8).any fun p => (e.pathCfg p).enabled && (e.pathCfg p).crossing == n

/-- The holds whose sources stand toward a segment at its enabling (R4). -/
def standingHolds (e : Site) (n : SegId) : List Hold :=
  ((List.finRange 24).filter fun k => (e.trigger k).state.stands && (e.trigCfg k).enabled &&
    hasSeg (e.trigCfg k).segments n).map .trigger ++
  ((List.finRange 16).filter fun x => e.entry x == .closing && hasSeg (e.entryCfg x).segments n).map .schedule

/-- The segment record is written (R3, R4). -/
def State.putSegment (n : SegId) (c : SegmentCfg) (s : State) : State :=
  let s1 := s.mapSite (Site.configure fun x => { x with segments := x.segments.set n c })
  if c.enabled && !(s.site.segCfg n).enabled then
    (standingHolds s.site n).foldl (fun s h => s.raiseHold n h) s1
  else s1

/-! ## Gates -/

/-- The state a gate takes from the write of its record (R28). -/
def gateRewritten (e : Site) (wasEnabled : Bool) (g : GateId) (r : Road) : Road :=
  let r1 := r.onGate g fun x => { x with retryCount := 0 }
  if !(e.gateCfg g).enabled then
    r1.onGate g fun x => { x.stopped with state := x.rest.followed, fault := none, target := none }
  else if wasEnabled then r1
  else
    match (r1.gate g).rest with
    | .conflict => setFaulted e g .limitConflict r1
    | x => r1.onGate g fun y => { y with state := x.followed }

/-- A gate joins the guard gates of its segment: one that is FAULTED is treated as R14 or R17 gives (R2). Its report comes
before a PASS_ENDED report of the same write (DESIGN CHOICE, log 37). -/
def gateJoins (e : Site) (g : GateId) (r : Road) : Road :=
  let s := (e.gateCfg g).guarded
  if (r.gate g).state = .faulted then
    match (r.segment s).state with
    | .clearing | .closed => markUnguarded e s [g] r
    | .reopening => reportGates e .reopenBlocked s [g] r
    | .open | .notice => r
  else r

/-- A fresh evaluation of the conditions that depend on a segment's guard gates (R2). -/
def evalGuards (e : Site) (tell : Listener) (s : SegId) (r : Road) : Road := evalOpen e tell s (evalClosed e tell s r)

/-- What the write of a gate record does on the road, under the old record o (R2, R22, R28). The segment guarded
before evaluates before the one guarded now (DESIGN CHOICE, log 37). -/
def gateWritten (e : Site) (tell : Listener) (o : GateCfg) (g : GateId) (r : Road) : Road :=
  let c := e.gateCfg g
  let r1 := gateRewritten e o.enabled g r
  let r2 :=
    if c.enabled then
      setTarget e tell g (r1.segment c.guarded).state.target
        (if o.enabled && o.guarded == c.guarded then r1 else gateJoins e g r1)
    else r1
  let r3 := endPass e g .rewrite r2
  let r4 := if o.enabled then evalGuards e tell o.guarded r3 else r3
  permits e tell (if c.enabled then evalGuards e tell c.guarded r4 else r4)

/-- The gate record is written (R28). -/
def State.putGate (g : GateId) (c : GateCfg) (s : State) : State :=
  (s.mapSite (Site.configure fun x => { x with gates := x.gates.set g c })).react fun e r =>
    gateWritten e (listener e) (s.site.gateCfg g) g r

/-! ## Signs -/

/-- What the write of a sign record does on the road: the sign, with its confirmed claim handed on, then the head, then the
rendering (R129, R161; DEDUCED, log 44). -/
def signWritten (e : Site) (tell : Listener) (h : SignId) (r : Road) : Road :=
  let r1 := setConfirmed tell h none (r.onSign h fun x => { x with pending := none, sent := none, unusable := none })
  linkArbitrate e (render e tell h false (restartHead e tell h (e.signCfg h).enabled r1))

/-- The sign record is written (R129). -/
def State.putSign (h : SignId) (c : SignCfg) (s : State) : State :=
  (s.mapSite (Site.configure fun x => { x with signs := x.signs.set h c })).react fun e r =>
    signWritten e (listener e) h r

/-! ## Timebases and channels -/

/-- A capture channel selects the timebase (R51). -/
def Site.selected (e : Site) (t : TbId) : Bool := (List.finRange 12).any fun c => chanSelects (e.chanCfg c) t

/-- The further effects of a change of T3's mode (R54). -/
def Site.flashMode (old new : TbMode) (e : Site) : Site :=
  match old, new with
  | .flash, .free => e.freeBeacons
  | .free, .flash => ({ e with slot := 0 }).slotEvent
  | _, _ => e

/-- The timebase record is written (R52, R54). -/
def Site.putTimebase (t : TbId) (c : TimebaseCfg) (e : Site) : Site :=
  if c = e.tbCfg t then e
  else
    let e1 := ((e.configure fun x => { x with timebases := x.timebases.set t c }).zeroTb t).restartSelecting t
    if t = 3 then e1.flashMode (e.tbCfg t).mode c.mode else e1

/-- The channel is a detector of the path. -/
def detectorAt (c : PathCfg) (ch : ChanId) : Option DetNo :=
  [DetNo.first, DetNo.second].find? fun d =>
    match detOf c d with
    | some x => x.chan == ch
    | none => false

/-- The channel is owned by a path that is not QUIET (R55, R56). -/
def Site.owned (e : Site) (ch : ChanId) : Bool :=
  (List.finRange 8).any fun p =>
    (e.pathCfg p).enabled && (detectorAt (e.pathCfg p) ch).isSome && (e.path p).detection != .quiet

/-- A channel restart sets a seismic detector's count of bins to 0 (R103). -/
def Site.zeroBins (p : PathId) (d : DetNo) (e : Site) : Site :=
  match detOf (e.pathCfg p) d with
  | some x =>
    if x.kind = .seismic then e.setPath p ((e.path p).setDet d { (e.path p).det d with bins := 0 }) else e
  | none => e

/-- The paths take the write of a channel: bins counted and coverage (R103, R104). Several paths
take it in number order, each whole (DESIGN CHOICE, log 41). -/
def State.channelForPaths (ch : ChanId) (s : State) : State :=
  (List.finRange 8).foldl (fun s p =>
    match detectorAt (s.site.pathCfg p) ch with
    | some d => if (s.site.pathCfg p).enabled then (s.mapSite (Site.zeroBins p d)).recover p (some d) else s
    | none => s) s

/-- The channel record is written (R56). -/
def State.putChannel (ch : ChanId) (c : ChannelCfg) (s : State) : State :=
  (s.mapSite fun e =>
    (e.configure fun x => { x with channels := x.channels.set ch c }).restartChannel ch).channelForPaths ch

/-! ## Stations, triggers, supply -/

/-- The analog inputs a station record names. -/
def inputsNamed (c : StationCfg) : List (Fin 9) := c.airInput.toList ++ c.surfInput.toList ++ c.rhInput.toList

/-- Another station names one of the record's inputs or its wind channel (R67). -/
def Site.stationClash (e : Site) (w : StationId) (c : StationCfg) : Bool :=
  (List.finRange 3).any fun v =>
    v != w && ((inputsNamed (e.stationCfg v)).any (fun i => (inputsNamed c).contains i) ||
      (c.wind.isSome && c.wind == (e.stationCfg v).wind))

/-- The station record is written and its measurement restarted (R68). -/
def State.putStation (w : StationId) (c : StationCfg) (s : State) : State :=
  (s.mapSite fun e =>
    ((e.configure fun x => { x with stations := x.stations.set w c }).setStation w {}).absentStation w).evalTriggers
    (ofStation w)

/-- The thresholds of a supply record differ (R171). -/
def thresholdsDiffer (a b : SupplyCfg) : Bool :=
  a.ecoEnter != b.ecoEnter || a.ecoLeave != b.ecoLeave || a.resEnter != b.resEnter || a.resLeave != b.resLeave

/-- The supply record is written (R82, R171). -/
def State.putSupply (c : SupplyCfg) (s : State) : State :=
  let old := s.site.cfg.supply
  let s1 := s.mapSite (Site.configure fun x => { x with supply := c })
  let s2 := if thresholdsDiffer c old then s1.mapSite fun e => { e with fall := 0, deep := 0, rise := 0 } else s1
  if c.cal = old.cal then s2
  else (s2.mapSite fun e => ({ e with supplyIn := {} }).absentSupply).evalTriggers onlySupply

/-! ## Paths -/

/-- The wire of a trip-line detector is broken as the channel stands (R101). -/
def Site.foundBroken (e : Site) (x : Detector) : Bool :=
  x.kind == .tripline && (e.chanCfg x.chan).mode == .lowWidth && (e.chan x.chan).continuity == .broken

/-- One detector is set up at the write of its path (R101). -/
def State.setUpDetector (p : PathId) (d : DetNo) (s : State) : State :=
  match detOf (s.site.pathCfg p) d with
  | none => s.mapSite fun e => e.setPath p ((e.path p).setDet d {})
  | some x =>
    if s.site.foundBroken x then
      (s.mapSite fun e => e.setPath p ((e.path p).setDet d { state := .spent, bins := 0 })).report .triplineFoundBroken
        (p.val + 1) (.chan x.chan)
    else s.mapSite fun e => e.setPath p ((e.path p).setDet d {})

/-- Channels whose applicable debounce time has changed take the new one at once (R61); where several low widths have
reached it, the channels act in number order (DESIGN CHOICE, log 38). -/
def State.newDebounces (before : Site) (s : State) : State :=
  (List.finRange 12).foldl (fun s c => if s.site.debounce c = before.debounce c then s else s.debounceChanged c) s

/-- The path record is written: detectors set up whether or not the path is enabled, coverage, wanted mask, debounce times
(R100, R101, R104, R113; log 23). A write that disables the path clears its wanted mask alone: a lamp that its active mask
still lights, after CLEAR_PATH in the same FLASH cycle, goes on until the next slot 0 (DESIGN CHOICE, log 23). -/
def State.putPath (p : PathId) (c : PathCfg) (s : State) : State :=
  let was := (s.site.pathCfg p).enabled
  let s1 := s.mapSite fun e =>
    (e.configure fun x => { x with paths := x.paths.set p c }).setPath p
      { e.path p with coverage := if was && c.enabled then (e.path p).coverage else .full }
  let s2 := ((s1.setUpDetector p .first).setUpDetector p .second).recover p none
  (s2.mapSite (Site.latchBeacon p)).newDebounces s.site

/-! ## Schedule, zone, attention -/

/-- The schedule entry is written and recomputed (R122). -/
def State.putSchedule (n : EntryId) (c : ScheduleCfg) (s : State) : State :=
  (s.mapSite (Site.configure fun x => { x with entries := x.entries.set n c })).recomputeEntry n (s.site.entryCfg n)

/-- The zone offset is written; a new value recomputes every entry (R120). -/
def State.putZone (z : Int) (s : State) : State :=
  if z = s.site.cfg.zone then s else (s.mapSite (Site.configure fun x => { x with zone := z })).recomputeAll

/-- The attention level is written and ATTN evaluated at once (R184). -/
def State.putAttention (l : ReportClass) (s : State) : State :=
  (s.mapSite (Site.configure fun x => { x with attention := l })).react fun e r => r.evalAttn e

end Sys2Proof.Machine
end

