-- ==== Sys2Proof/Machine/ConfigWrites.lean ====
section
/-! DEFINITION. The meanings of the configuration writes and of the two store requests (R3, R28, R51, R56, R67, R88, R101,
R120, R122, R129, R165, R168, R169, R171, R184). Each request has an act, its own checks and effect, and a meaning,
which takes the frame. -/

namespace Sys2Proof.Machine

/-- PUT_SEGMENT (R3). -/
def actPutSegment (q : SegmentReq) (s : State) : Verdict :=
  withIndex (index1 6 q.index) fun n =>
  storeFree s <|
  withValue (segmentOf q) fun c =>
  require ((s.road.segment n).state == .open) .inUse <|
  require (c.enabled || !crossed s.site n) .inUse <|
  .done (s.putSegment n c) (.stored q.index (.segment c))

/-- PUT_GATE (R28). -/
def actPutGate (q : GateReq) (s : State) : Verdict :=
  withIndex (index1 8 q.index) fun g =>
  storeFree s <|
  withValue (gateOf q) fun c =>
  require (s.road.gate g).state.atRest .inUse <|
  .done (s.putGate g c) (.stored q.index (.gate c))

/-- PUT_SIGN (R129). -/
def actPutSign (q : SignReq) (s : State) : Verdict :=
  withIndex (index1 16 q.index) fun h =>
  storeFree s <|
  withValue (signOf q) fun c =>
  .done (s.putSign h c) (.stored q.index (.sign c))

/-- PUT_TIMEBASE (R51). -/
def actPutTimebase (q : TimebaseReq) (s : State) : Verdict :=
  withIndex (index0 4 q.index) fun t =>
  storeFree s <|
  withValue (timebaseOf t q) fun c =>
  require (!(c.mode == .flash && (s.site.tbCfg t).mode == .free && s.site.selected t)) .inUse <|
  .done (s.mapSite (Site.putTimebase t c)) (.stored q.index (.timebase c))

/-- PUT_CHANNEL (R56). -/
def actPutChannel (q : ChannelReq) (s : State) : Verdict :=
  withIndex (index0 12 q.index) fun ch =>
  storeFree s <|
  withValue (channelOf q) fun c =>
  require (!s.site.owned ch) .inUse <|
  require (!(chanSelects c 3 && (s.site.tbCfg 3).mode == .flash)) .inUse <|
  .done (s.putChannel ch c) (.stored q.index (.channel c))

/-- PUT_STATION (R67). -/
def actPutStation (q : StationReq) (s : State) : Verdict :=
  withIndex (index1 3 q.index) fun w =>
  storeFree s <|
  withValue (stationOf q) fun c =>
  require (!s.site.stationClash w c) .inUse <|
  .done (s.putStation w c) (.stored q.index (.station c))

/-- PUT_TRIGGER (R88). -/
def actPutTrigger (q : TriggerReq) (s : State) : Verdict :=
  withIndex (index1 24 q.index) fun k =>
  storeFree s <|
  withValue (triggerOf q) fun c =>
  .done (s.restartTrigger k c) (.stored q.index (.trigger c))

/-- PUT_PATH (R101). -/
def actPutPath (q : PathReq) (s : State) : Verdict :=
  withIndex (index1 8 q.index) fun p =>
  storeFree s <|
  withValue (pathOf q) fun c =>
  require ((s.site.path p).detection == .quiet && !(s.site.path p).declared) .inUse <|
  require (!c.enabled || (s.site.segCfg c.crossing).enabled) .notEnabled <|
  .done (s.putPath p c) (.stored q.index (.path c))

/-- PUT_SCHEDULE (R122). -/
def actPutSchedule (q : ScheduleReq) (s : State) : Verdict :=
  withIndex (index1 16 q.index) fun n =>
  storeFree s <|
  withValue (scheduleOf q) fun c =>
  let t := s.putSchedule n c
  .done t (.storedEntry q.index c (t.site.entry n))

/-- PUT_SUPPLY (R171). -/
def actPutSupply (q : SupplyCfg) (s : State) : Verdict :=
  storeFree s <|
  withValue (supplyOf q) fun c =>
  .done (s.putSupply c) (.stored 0 (.supply c))

/-- Range of the zone offset (R120). -/
def zoneOf (z : Int) : Int := clampInt (-43200) 50400 z

/-- SET_ZONE (R120). -/
def actSetZone (z : Int) (s : State) : Verdict :=
  storeFree s <| .done (s.putZone (zoneOf z)) (.zoneOnly (zoneOf z))

/-- SET_ATTENTION (R184). -/
def actSetAttention (l : Option ReportClass) (s : State) : Verdict :=
  storeFree s <|
  withValue l fun c =>
  .done (s.putAttention c) (.stored 0 (.attention c))

/-- SAVE_CONFIG (R169). -/
def actSaveConfig (_ : Unit) (s : State) : Verdict := storeFree s <| .done (s.mapSite Site.beginSave)

/-- PUT_TEMPLATE (R165). -/
def actPutTemplate (q : TemplateReq) (s : State) : Verdict :=
  withIndex (index1 96 q.slot) fun n =>
  storeFree s <|
  withValue (templateOf q.lines) fun t =>
  .done (s.beginTemplate n t) (.templateCells (n.val + 1) (cellCount t.line1) (cellCount t.line2) (cellCount t.line3))

/-! ## Meanings -/

/-- PUT_SEGMENT, kind 0x10. -/
def execPutSegment (tag : Byte) (body : Body SegmentReq) (s : State) : Host.Outcome State Fault Refusal :=
  .next (s.takeRequest 0x10 tag false body actPutSegment)

/-- PUT_GATE, kind 0x11. -/
def execPutGate (tag : Byte) (body : Body GateReq) (s : State) : Host.Outcome State Fault Refusal :=
  .next (s.takeRequest 0x11 tag false body actPutGate)

/-- PUT_SIGN, kind 0x12. -/
def execPutSign (tag : Byte) (body : Body SignReq) (s : State) : Host.Outcome State Fault Refusal :=
  .next (s.takeRequest 0x12 tag false body actPutSign)

/-- PUT_TIMEBASE, kind 0x13. -/
def execPutTimebase (tag : Byte) (body : Body TimebaseReq) (s : State) : Host.Outcome State Fault Refusal :=
  .next (s.takeRequest 0x13 tag false body actPutTimebase)

/-- PUT_CHANNEL, kind 0x14. -/
def execPutChannel (tag : Byte) (body : Body ChannelReq) (s : State) : Host.Outcome State Fault Refusal :=
  .next (s.takeRequest 0x14 tag false body actPutChannel)

/-- PUT_STATION, kind 0x15. -/
def execPutStation (tag : Byte) (body : Body StationReq) (s : State) : Host.Outcome State Fault Refusal :=
  .next (s.takeRequest 0x15 tag false body actPutStation)

/-- PUT_TRIGGER, kind 0x16. -/
def execPutTrigger (tag : Byte) (body : Body TriggerReq) (s : State) : Host.Outcome State Fault Refusal :=
  .next (s.takeRequest 0x16 tag false body actPutTrigger)

/-- PUT_PATH, kind 0x17. -/
def execPutPath (tag : Byte) (body : Body PathReq) (s : State) : Host.Outcome State Fault Refusal :=
  .next (s.takeRequest 0x17 tag false body actPutPath)

/-- PUT_SCHEDULE, kind 0x18. -/
def execPutSchedule (tag : Byte) (body : Body ScheduleReq) (s : State) : Host.Outcome State Fault Refusal :=
  .next (s.takeRequest 0x18 tag false body actPutSchedule)

/-- PUT_SUPPLY, kind 0x19. -/
def execPutSupply (tag : Byte) (body : Body SupplyCfg) (s : State) : Host.Outcome State Fault Refusal :=
  .next (s.takeRequest 0x19 tag false body actPutSupply)

/-- SET_ZONE, kind 0x1A. -/
def execSetZone (tag : Byte) (body : Body Int) (s : State) : Host.Outcome State Fault Refusal :=
  .next (s.takeRequest 0x1A tag false body actSetZone)

/-- SET_ATTENTION, kind 0x1B. -/
def execSetAttention (tag : Byte) (body : Body (Option ReportClass)) (s : State) : Host.Outcome State Fault Refusal :=
  .next (s.takeRequest 0x1B tag false body actSetAttention)

/-- SAVE_CONFIG, kind 0x1D. -/
def execSaveConfig (tag : Byte) (body : Body Unit) (s : State) : Host.Outcome State Fault Refusal :=
  .next (s.takeRequest 0x1D tag false body actSaveConfig)

/-- PUT_TEMPLATE, kind 0x20. -/
def execPutTemplate (tag : Byte) (body : Body TemplateReq) (s : State) : Host.Outcome State Fault Refusal :=
  .next (s.takeRequest 0x20 tag false body actPutTemplate)

end Sys2Proof.Machine
end

