-- ==== Sys2Proof/Machine/FieldEvents.lean ====
section
/-! DEFINITION. The meanings of timebase, capture, path, measurement and clock events (R50, R53, R58, R61 to R63, R69,
R106, R118, R139). -/

namespace Sys2Proof.Machine

/-- Ticks of a flash slot (R53). -/
def slotTicks : Nat := 31250

/-- The moment a FREE timebase wraps; none for T3 in FLASH mode or outside RUNNING (R50, R53, R64). -/
def Site.wrapAt (e : Site) (t : TbId) : Option Nat :=
  if e.running && (e.tbCfg t).mode == .free then some (e.tbZero[t] + wrapTicks * (e.tbCfg t).rate.division) else none

/-- The moment T3 in FLASH mode next reaches 31,250 (R53). -/
def Site.slotAt (e : Site) : Option Nat :=
  if e.running && !e.t3Free then some (e.tbZero[(3 : Fin 4)] + slotTicks * 8) else none

/-- The flash slot advances, 31,250 ticks after the one before: T3's count becomes 0 and the generator takes the slot event (R53, R113). -/
def Site.advanceSlot (e : Site) : Site :=
  if e.running && !e.t3Free then ({ e.passTb 3 slotTicks 8 with slot := e.slot + 1 }).slotEvent else e

/-- TIMEBASE_WRAP (R50). -/
def execTimebaseWrap (t : TbId) (s : State) : Host.Outcome State Fault Refusal :=
  .next ((s.reach (s.site.wrapAt t)).mapSite fun e => if e.running then e.wrap t else e)

/-- FLASH_SLOT_ADVANCE (R53). -/
def execFlashSlotAdvance (s : State) : Host.Outcome State Fault Refusal :=
  .next ((s.reach s.site.slotAt).mapSite Site.advanceSlot)

/-- CAPTURE_EDGE: an edge at the pin, before polarity (R58, R61, R63). -/
def execCaptureEdge (c : ChanId) (rising : Bool) (s : State) : Host.Outcome State Fault Refusal :=
  .next (s.mapSite (Site.edge c rising))

/-- LOW_WIDTH_DEBOUNCE_REACHED (R62). -/
def execLowWidthDebounceReached (c : ChanId) (s : State) : Host.Outcome State Fault Refusal := .next (s.lowReached c)

/-- HIGH_TIME_REACHED (R62). -/
def execHighTimeReached (c : ChanId) (s : State) : Host.Outcome State Fault Refusal := .next (s.highReached c)

/-- BIN_CLOSE (R63). -/
def execBinClose (c : ChanId) (s : State) : Host.Outcome State Fault Refusal :=
  .next ((s.reach (s.site.chan c).binEnd).binClosed c)

/-- CONFIRM_TIMER_EXPIRY (R106). -/
def execConfirmTimerExpiry (p : PathId) (s : State) : Host.Outcome State Fault Refusal :=
  .next ((s.reach (s.site.path p).confirmTimer).confirmExpired p)

/-- A sample completion: the measurement, then the Trigger Evaluator and the Supply Monitor; the next comes 1 s after this
one's moment (R69). R69 does not say which of the two evaluates first: the model completes every trigger, with its actions, before
the Supply Monitor (DESIGN CHOICE, log 43). -/
def State.sample (s : State) : State :=
  let s1 := s.measureAll.mapSite fun e => { e with sampleEnd := some (e.sampleEnd.getD e.now + sec 1) }
  (s1.evalTriggers fun _ => true).supplyEval

/-- SAMPLE_COMPLETION (R69): none before the end of LOADING (R84). -/
def execSampleCompletion (s : State) : Host.Outcome State Fault Refusal :=
  .next (if s.site.running then (s.reach s.site.sampleEnd).sample else s)

/-- A second event: the clock first, then the entries of a RUNNING part (R118, R125, R126). -/
def State.second (s : State) : State :=
  let s1 := s.mapSite Site.tick
  if s.site.running then s1.recomputeAll else s1

/-- SECOND_EVENT (R118): none while the clock is UNSET. -/
def execSecondEvent (s : State) : Host.Outcome State Fault Refusal :=
  .next (if s.site.clock.isSome then (s.reach s.site.secondEnd).second else s)

/-- Every enabled sign is rendered, and the next check comes 30 s after this one's moment (R139). -/
def State.rerender (s : State) : State :=
  (s.mapSite fun e => { e with rerenderAt := some (e.rerenderAt.getD e.now + sec 30) }).react fun e r => renderAll e (listener e) r

/-- RERENDER_CHECK (R139). -/
def execRerenderCheck (s : State) : Host.Outcome State Fault Refusal :=
  .next (if s.site.running then (s.reach s.site.rerenderAt).rerender else s)

/-- ANALOG_CONVERSION_COMPLETE (R69): the converter runs from the end of LOADING on. -/
def execAnalogConversionComplete (i : InputId) (code : Nat) (s : State) : Host.Outcome State Fault Refusal :=
  .next (s.mapSite fun e => if e.running then { e with codes := e.codes.set i code } else e)

end Sys2Proof.Machine
end

