-- ==== Sys2Proof/Machine/GateEvents.lean ====
section
/-! DEFINITION. The meanings of the gate inputs and of the gate and segment timers (R10, R13, R22, R27, R29, R36 to R45).
A timer's row brings the reference to the moment of expiry, and does nothing where the timer is stopped (log 3). -/

namespace Sys2Proof.Machine

/-- A pass's timer expires: the gate is targeted DOWN, the record becomes idle, and PASS_ENDED is queued (R22), in
that order (DEDUCED, log 44). -/
def passExpired (e : Site) (tell : Listener) (g : GateId) (r : Road) : Road :=
  match r.pass g with
  | .running _ _ =>
    permits e tell
      ((setTarget e tell g .down (r.setPass g .idle)).report e .passEnded (g.val + 1) (.passEnd .expiry))
  | .idle | .waiting _ => r

/-- Expiry time of a pass's timer, while it runs. -/
def Pass.expiry : Pass → Option Nat
  | .running _ t => some t
  | .idle | .waiting _ => none

/-- LIMIT_SWITCH_CHANGE (R29): the levels both limits now have. -/
def execLimitSwitchChange (g : GateId) (up down : Bool) (s : State) : Host.Outcome State Fault Refusal :=
  .next (s.react fun e r => limitChange e (listener e) g up down r)

/-- PRESENCE_CHANGE (R40, R41). -/
def execPresenceChange (g : GateId) (level : Bool) (s : State) : Host.Outcome State Fault Refusal :=
  .next (s.react fun e r => presenceChanged e (listener e) g level r)

/-- DRIVER_TRIP (R42). -/
def execDriverTrip (g : GateId) (level : Bool) (s : State) : Host.Outcome State Fault Refusal :=
  .next (s.react fun e r => tripInput e (listener e) g level r)

/-- TRAVEL_TIMEOUT (R38). -/
def execTravelTimeout (g : GateId) (s : State) : Host.Outcome State Fault Refusal :=
  .next ((s.reach (s.road.gate g).travelTimer).react fun e r => travelExpired e (listener e) g r)

/-- PAUSE_EXPIRY (R39). -/
def execPauseExpiry (g : GateId) (s : State) : Host.Outcome State Fault Refusal :=
  .next ((s.reach (s.road.gate g).pauseTimer).react fun e r => pauseExpired e (listener e) g r)

/-- HOLD_OFF_EXPIRY (R41). -/
def execHoldOffExpiry (g : GateId) (s : State) : Host.Outcome State Fault Refusal :=
  .next ((s.reach (s.road.gate g).holdOffTimer).react fun e r => holdOffExpired e (listener e) g r)

/-- RETRY_DELAY_EXPIRY (R43). -/
def execRetryDelayExpiry (g : GateId) (s : State) : Host.Outcome State Fault Refusal :=
  .next ((s.reach (s.road.gate g).retryTimer).react fun e r => retryExpired e (listener e) g r)

/-- DISPLACEMENT_EXPIRY (R45). -/
def execDisplacementExpiry (g : GateId) (s : State) : Host.Outcome State Fault Refusal :=
  .next ((s.reach (s.road.gate g).displaceTimer).react fun e r => displaceExpired e (listener e) g r)

/-- RAMP_STEP (R36). -/
def execRampStep (g : GateId) (s : State) : Host.Outcome State Fault Refusal :=
  .next ((s.reach (s.road.gate g).rampTimer).react fun e r => rampStepped e g r)

/-- NOTICE_TIMER_EXPIRY (R10). -/
def execNoticeTimerExpiry (n : SegId) (s : State) : Host.Outcome State Fault Refusal :=
  .next ((s.reach (s.road.segment n).noticeTimer).react fun e r => noticeExpired e (listener e) n r)

/-- SWEEP_TIMER_EXPIRY (R13). -/
def execSweepTimerExpiry (n : SegId) (s : State) : Host.Outcome State Fault Refusal :=
  .next ((s.reach (s.road.segment n).sweepTimer).react fun e r => sweepExpired e (listener e) n r)

/-- PASS_TIMER_EXPIRY (R22). -/
def execPassTimerExpiry (g : GateId) (s : State) : Host.Outcome State Fault Refusal :=
  .next ((s.reach (s.road.pass g).expiry).react fun e r => passExpired e (listener e) g r)

end Sys2Proof.Machine
end

