-- ==== Sys2Proof/Machine/LinkEvents.lean ====
section
/-! DEFINITION. The meanings of the events of the sign link (R146, R148 to R154, R159). -/

namespace Sys2Proof.Machine

/-- The end of the answer window in progress (R146). -/
def Road.windowEnd (r : Road) : Option Nat :=
  match r.link with
  | some { wait := .answer t, .. } => some t
  | _ => none

/-- The end of the NAK delay in progress (R152). -/
def Road.nakWaitEnd (r : Road) : Option Nat :=
  match r.link with
  | some { wait := .nak t, .. } => some t
  | _ => none

/-- An answer reaches the transaction in progress; outside an answer window it has no effect (R146). -/
def State.answered (a : Answer) (s : State) : State := s.react fun e r => takeAnswer e (listener e) a r

/-- POLL_DUE (R159). -/
def execPollDue (h : SignId) (s : State) : Host.Outcome State Fault Refusal :=
  .next ((s.reach (s.site.dueAt (s.road.head h))).react fun e r => linkArbitrate e (fallDue e h r))

/-- STATUS_RECEIVED: a complete, good STATUS of the head addressed (R148, R154). -/
def execStatusReceived (st : HeadStatus) (s : State) : Host.Outcome State Fault Refusal := .next (s.answered (.status st))

/-- ACK_RECEIVED (R150). -/
def execAckReceived (s : State) : Host.Outcome State Fault Refusal := .next (s.answered .ack)

/-- NAK_RECEIVED (R152). -/
def execNakReceived (s : State) : Host.Outcome State Fault Refusal := .next (s.answered .nak)

/-- STALL_RECEIVED (R153). -/
def execStallReceived (s : State) : Host.Outcome State Fault Refusal := .next (s.answered .stall)

/-- BAD_ANSWER_RECEIVED, whatever made it bad (R146). -/
def execBadAnswerReceived (_why : BadAnswer) (s : State) : Host.Outcome State Fault Refusal := .next (s.answered .bad)

/-- ANSWER_WINDOW_EXPIRY: a bad answer if bytes came, a missed one if none did (R146). -/
def execAnswerWindowExpiry (bytesSeen : Bool) (s : State) : Host.Outcome State Fault Refusal :=
  .next ((s.reach s.road.windowEnd).answered (if bytesSeen then .bad else .missed))

/-- NAK_WAIT_EXPIRY (R152). -/
def execNakWaitExpiry (s : State) : Host.Outcome State Fault Refusal :=
  .next ((s.reach s.road.nakWaitEnd).react nakWaitEnded)

/-- LINK_BYTE_OUTSIDE_WINDOW: discarded, no effect (R146). -/
def execLinkByteOutsideWindow (_b : Byte) (s : State) : Host.Outcome State Fault Refusal := .next s

end Sys2Proof.Machine
end

