-- ==== Sys2Proof/Machine/Operating.lean ====
section
/-! DEFINITION. The meanings of the operating requests: clock, segments, passes, gate faults, paths, operator notices and
RESTART (R16, R19 to R21, R47, R108, R109, R119, R135, R183). -/

namespace Sys2Proof.Machine

/-- SET_CLOCK (R119). -/
def actSetClock (v : ClockValue) (s : State) : Verdict :=
  .done (((s.mapSite (Site.setClock v)).report .clockSet 0 (.clock v)).recomputeAll) (.clockSet v s.site.clock)

/-- CLOSE_SEGMENT (R19). -/
def actCloseSegment (n : Nat) (s : State) : Verdict :=
  withIndex (index1 6 n) fun i =>
  require (s.site.segCfg i).enabled .notEnabled <|
  let t := s.raiseHold i .operator
  .done t (.segState (t.road.segment i).state)

/-- RELEASE_SEGMENT (R20). -/
def actReleaseSegment (n : Nat) (s : State) : Verdict :=
  withIndex (index1 6 n) fun i =>
  require (s.site.segCfg i).enabled .notEnabled <|
  let t := (s.dropHold i .operator).dropHold i .restart
  .done t (.segState (t.road.segment i).state)

/-- REOPEN_SEGMENT (R16). -/
def actReopenSegment (n : Nat) (s : State) : Verdict :=
  withIndex (index1 6 n) fun i =>
  require (s.site.segCfg i).enabled .notEnabled <|
  require ((s.road.segment i).state == .closed) .inUse <|
  require (s.site.hold i).isEmpty .held <|
  .done (s.react fun e r => enterReopening e (listener e) i r)

/-- A service pass is granted: RUNNING at once on a gate that is UP, and otherwise WAITING with the gate targeted UP
(R21). -/
def grantPass (e : Site) (tell : Listener) (g : GateId) (duration : Nat) (r : Road) : Road :=
  if (r.gate g).state = .up then r.setPass g (.running duration (e.now + sec duration))
  else permits e tell (setTarget e tell g .up (r.setPass g (.waiting duration)))

/-- SERVICE_PASS (R21). -/
def actServicePass (q : PassReq) (s : State) : Verdict :=
  withIndex (index1 8 q.gate) fun g =>
  let i := (s.site.gateCfg g).guarded
  let d := clampNat 30 600 q.duration
  require (s.site.gateCfg g).enabled .notEnabled <|
  require ((s.road.segment i).state == .closed) .inUse <|
  require (!(s.site.hold i).avalanche) .held <|
  require ((s.road.gate g).state != .faulted) .inUse <|
  .done (s.react fun e r => grantPass e (listener e) g d r) (.duration d)

/-- The fault of a gate is cleared, and the gate goes on from its limits (R47). -/
def clearFault (e : Site) (tell : Listener) (g : GateId) (r : Road) : Road :=
  permits e tell (restOrQueue e tell g (r.onGate g fun x => { x with fault := none, retryCount := 0 }))

/-- RESET_GATE_FAULT (R47). -/
def actResetGateFault (n : Nat) (s : State) : Verdict :=
  withIndex (index1 8 n) fun g =>
  require (s.site.gateCfg g).enabled .notEnabled <|
  require ((s.road.gate g).state == .faulted) .inUse <|
  let t := s.react fun e r => clearFault e (listener e) g r
  .done t (.gateState (t.road.gate g).state)

/-- DECLARE_HAZARD (R108). The path's state in the reply is the detection state alone (DESIGN CHOICE, log 31). -/
def actDeclareHazard (q : HazardReq) (s : State) : Verdict :=
  withIndex (index1 8 q.path) fun p =>
  withValue q.close fun close =>
  require (s.site.pathCfg p).enabled .notEnabled <|
  let t := s.declare p close
  .done t (.detection (t.site.path p).detection)

/-- CLEAR_PATH (R109). -/
def actClearPath (n : Nat) (s : State) : Verdict :=
  withIndex (index1 8 n) fun p =>
  require (s.site.pathCfg p).enabled .notEnabled <|
  .done (s.clearPath p)

/-- The signs of an operator notice slot (R135). -/
def noticeSigns : Option Notice → SignSet
  | some x => x.signs
  | none => 0

/-- An operator notice is posted: the claims of the new set, the withdrawals from the old one, and the record (R135). -/
def State.postNotice (n : NoticeId) (x : Notice) (s : State) : State :=
  let old := noticeSigns s.site.notices[n]
  ((s.postAll x.signs { source := .operator n, cls := .operator, template := x.template }).withdrawAll
    (old &&& ~~~x.signs) (.operator n)).mapSite fun e => { e with notices := e.notices.set n (some x) }

/-- POST_NOTICE (R135). -/
def actPostNotice (q : NoticeReq) (s : State) : Verdict :=
  withIndex (index1 4 q.slot) fun n =>
  withValue (templateNo q.template) fun t =>
  let u := s.postNotice n { signs := q.signs, template := t }
  .done u (.signs (claimedSigns u.road q.signs (.operator n)))

/-- WITHDRAW_NOTICE (R135). -/
def actWithdrawNotice (n : Nat) (s : State) : Verdict :=
  withIndex (index1 4 n) fun i =>
  .done ((s.withdrawAll (noticeSigns s.site.notices[i]) (.operator i)).mapSite fun e =>
    { e with notices := e.notices.set i none })

/-- RESTART: the reset follows the last byte of the reply (R183). -/
def actRestart (_ : Unit) (s : State) : Verdict := .done s .none true

/-! ## Meanings -/

/-- SET_CLOCK, kind 0x02. -/
def execSetClock (tag : Byte) (body : Body ClockValue) (s : State) : Host.Outcome State Fault Refusal :=
  .next (s.takeRequest 0x02 tag false body actSetClock)

/-- CLOSE_SEGMENT, kind 0x30. -/
def execCloseSegment (tag : Byte) (body : Body Nat) (s : State) : Host.Outcome State Fault Refusal :=
  .next (s.takeRequest 0x30 tag false body actCloseSegment)

/-- RELEASE_SEGMENT, kind 0x31. -/
def execReleaseSegment (tag : Byte) (body : Body Nat) (s : State) : Host.Outcome State Fault Refusal :=
  .next (s.takeRequest 0x31 tag false body actReleaseSegment)

/-- REOPEN_SEGMENT, kind 0x32. -/
def execReopenSegment (tag : Byte) (body : Body Nat) (s : State) : Host.Outcome State Fault Refusal :=
  .next (s.takeRequest 0x32 tag false body actReopenSegment)

/-- SERVICE_PASS, kind 0x33. -/
def execServicePass (tag : Byte) (body : Body PassReq) (s : State) : Host.Outcome State Fault Refusal :=
  .next (s.takeRequest 0x33 tag false body actServicePass)

/-- RESET_GATE_FAULT, kind 0x34. -/
def execResetGateFault (tag : Byte) (body : Body Nat) (s : State) : Host.Outcome State Fault Refusal :=
  .next (s.takeRequest 0x34 tag false body actResetGateFault)

/-- DECLARE_HAZARD, kind 0x35. -/
def execDeclareHazard (tag : Byte) (body : Body HazardReq) (s : State) : Host.Outcome State Fault Refusal :=
  .next (s.takeRequest 0x35 tag false body actDeclareHazard)

/-- CLEAR_PATH, kind 0x36. -/
def execClearPath (tag : Byte) (body : Body Nat) (s : State) : Host.Outcome State Fault Refusal :=
  .next (s.takeRequest 0x36 tag false body actClearPath)

/-- POST_NOTICE, kind 0x37. -/
def execPostNotice (tag : Byte) (body : Body NoticeReq) (s : State) : Host.Outcome State Fault Refusal :=
  .next (s.takeRequest 0x37 tag false body actPostNotice)

/-- WITHDRAW_NOTICE, kind 0x38. -/
def execWithdrawNotice (tag : Byte) (body : Body Nat) (s : State) : Host.Outcome State Fault Refusal :=
  .next (s.takeRequest 0x38 tag false body actWithdrawNotice)

/-- RESTART, kind 0x39. -/
def execRestart (tag : Byte) (body : Body Unit) (s : State) : Host.Outcome State Fault Refusal :=
  .next (s.takeRequest 0x39 tag false body actRestart)

end Sys2Proof.Machine
end

