-- ==== Sys2Proof/Machine/PortEvents.lean ====
section
/-! DEFINITION. The meanings of the events of the cabinet line, of the store and of the resets (R166, R169, R177 to R181,
R183). -/

namespace Sys2Proof.Machine

/-- CABINET_FRAME_DISCARDED: no reply, no report; the receiver is in HUNT. No byte is taken while held (R177, R180). -/
def execCabinetFrameDiscarded (_why : Discard) (s : State) : Host.Outcome State Fault Refusal :=
  .next (if s.site.phase = .held then s else s.frameEnded)

/-- The start byte of a cabinet frame (R180). -/
def startByte : Byte := 0xA5

/-- The receiver judges a byte in HUNT (R180). -/
def judgeInHunt (b : Byte) : Receiver := if b = startByte then .length else .hunt

/-- INTER_BYTE_GAP_TIMEOUT: the byte that ended the gap is judged in HUNT (R180). -/
def execInterByteGapTimeout (b : Byte) (s : State) : Host.Outcome State Fault Refusal :=
  .next (if s.site.phase = .held then s else s.mapSite fun e => { e with rx := judgeInHunt b })

/-- HUNT_BYTE_DISCARDED: a byte other than the start byte has no effect (R180). -/
def execHuntByteDiscarded (_b : Byte) (s : State) : Host.Outcome State Fault Refusal := .next s

/-- The reply at the front of the transmit list has left the line (R181). -/
def Site.replyGone (x : Reply) (rest : List Reply) (e : Site) : Site :=
  { e with tx := rest, requestPending := e.requestPending && !x.answers }

/-- REPLY_SENT: the request answered is no longer pending; after the reply to RESTART the controller resets (R177, R181,
R183). -/
def execReplySent (s : State) : Host.Outcome State Fault Refusal :=
  .next (match s.site.tx with
    | [] => s
    | x :: rest =>
      let s1 := s.mapSite (Site.replyGone x rest)
      if x.restarts then s1.startLoading .restart else s1)

/-- A power-on: the clock is UNSET, and LOADING starts unless the RESET line is low (R177). -/
def State.powerOn (strap1 strap2 : Bool) (s : State) : State :=
  let s1 := s.mapSite fun e =>
    { e.loseClock with powerGood := true, powerSinceRun := true, strap1 := strap1, strap2 := strap2 }
  if s1.site.resetLow then s1.hold else s1.startLoading .power

/-- POWER_ON (R177). -/
def execPowerOn (strap1 strap2 : Bool) (s : State) : Host.Outcome State Fault Refusal := .next (s.powerOn strap1 strap2)

/-- BROWN_OUT: held in reset, the clock lost (R117, R177). -/
def execBrownOut (s : State) : Host.Outcome State Fault Refusal :=
  .next (s.mapSite fun e => { e.loseClock with powerGood := false }).hold

/-- RESET_LINE_LOW: held in reset, the clock kept (R117, R177). -/
def execResetLineLow (s : State) : Host.Outcome State Fault Refusal :=
  .next (s.mapSite fun e => { e with resetLow := true }).hold

/-- The RESET line rises: LOADING starts with the core supply good (R177). -/
def State.lineHigh (strap1 strap2 : Bool) (s : State) : State :=
  let s1 := s.mapSite fun e => { e with resetLow := false, strap1 := strap1, strap2 := strap2 }
  if s1.site.powerGood then s1.startLoading .line else s1

/-- RESET_LINE_HIGH: no event on a line that is high already (R177). -/
def execResetLineHigh (strap1 strap2 : Bool) (s : State) : Host.Outcome State Fault Refusal :=
  .next (if s.site.resetLow then s.lineHigh strap1 strap2 else s)

/-- LOADING_END (R178): no event outside LOADING. -/
def execLoadingEnd (s : State) : Host.Outcome State Fault Refusal :=
  .next (if s.site.phase = .loading then s.endLoading else s)

/-- TEMPLATE_WRITE_COMPLETE (R166): no event without a template write in flight. -/
def execTemplateWriteComplete (ok : Bool) (s : State) : Host.Outcome State Fault Refusal := .next (s.endTemplate ok)

/-- CONFIG_SAVE_COMPLETE (R169): no event without a save in flight. -/
def execConfigSaveComplete (ok : Bool) (s : State) : Host.Outcome State Fault Refusal := .next (s.endSave ok)

end Sys2Proof.Machine
end

