-- ==== Sys2Proof/Machine/Status.lean ====
section
/-! DEFINITION. The meanings of the status requests, of FETCH_REPORTS and of a frame of no known kind (R25, R49, R85, R99,
R116, R119, R127, R145, R167, R176, R181, R183, R184, R186). -/

namespace Sys2Proof.Machine

/-- GET_IDENTITY (R183). -/
def actGetIdentity (_ : Unit) (s : State) : Verdict := .done s (.identity (identityView s))

/-- GET_CLOCK: NOT_SET carries the zone offset (R119, R182). -/
def actGetClock (_ : Unit) (s : State) : Verdict :=
  match s.site.clock with
  | some v => .done s (.clock v s.site.cfg.zone (localDay s.site.cfg.zone v.toNat))
  | none => .refuse .notSet (.zoneOnly s.site.cfg.zone)

/-- GET_RECORD (R184). -/
def actGetRecord (q : RecordReq) (s : State) : Verdict :=
  withValue (recordView s q.kind q.index) fun o => withIndex o fun v => .done s v

/-- A template with the cell count of each line (R167). -/
def withCells (t : Template) : Template × Nat × Nat × Nat :=
  (t, cellCount t.line1, cellCount t.line2, cellCount t.line3)

/-- What GET_TEMPLATE shows of a slot (R167). -/
def templateReply (n : SlotId) (r : Road) : ReplyBody :=
  .template (slotNumber n) (r.slots[n]).kind ((r.slots[n]).lines.map withCells)

/-- GET_TEMPLATE: a VALID slot found unreadable becomes BAD first (R164, R167). -/
def actGetTemplate (n : Nat) (s : State) : Verdict :=
  withIndex (templateNo n) fun t =>
  match slotOf t with
  | none => .done s (.template 0 .valid (some (withCells blankTemplate)))
  | some k =>
    let u := s.react fun e r => testSlot e k r
    .done u (templateReply k u.road)

/-- GET_SEGMENT (R25). -/
def actGetSegment (n : Nat) (s : State) : Verdict :=
  withIndex (index1 6 n) fun i => .done s (.segment (segmentView s i))

/-- GET_GATE (R49). -/
def actGetGate (n : Nat) (s : State) : Verdict := withIndex (index1 8 n) fun g => .done s (.gate (gateView s g))

/-- GET_SIGN (R145). -/
def actGetSign (n : Nat) (s : State) : Verdict := withIndex (index1 16 n) fun h => .done s (.sign (signView s h))

/-- GET_PATH (R116). -/
def actGetPath (n : Nat) (s : State) : Verdict := withIndex (index1 8 n) fun p => .done s (.path (pathView s p))

/-- GET_TRIGGER (R99). -/
def actGetTrigger (n : Nat) (s : State) : Verdict :=
  withIndex (index1 24 n) fun k => .done s (.trigger (triggerView s k))

/-- GET_QUANTITIES (R85). -/
def actGetQuantities (_ : Unit) (s : State) : Verdict :=
  .done s (.quantities s.site.table s.site.supplyIn.ring.length)

/-- GET_SCHEDULE (R127). -/
def actGetSchedule (n : Nat) (s : State) : Verdict :=
  withIndex (index1 16 n) fun i => .done s (.schedule (scheduleView s i))

/-- GET_SUPPLY (R176). -/
def actGetSupply (_ : Unit) (s : State) : Verdict := .done s (.supply (supplyView s))

/-- FETCH_REPORTS (R186). -/
def actFetchReports (_ : Unit) (s : State) : Verdict :=
  let x := pickReports 8 s.road.reports
  .done (s.react Road.fetched) (.reports s.road.lost x.2.length x.1)

/-! ## Meanings -/

/-- GET_IDENTITY, kind 0x01, is answered in LOADING too. -/
def execGetIdentity (tag : Byte) (body : Body Unit) (s : State) : Host.Outcome State Fault Refusal :=
  .next (s.takeRequest 0x01 tag true body actGetIdentity)

/-- GET_CLOCK, kind 0x03. -/
def execGetClock (tag : Byte) (body : Body Unit) (s : State) : Host.Outcome State Fault Refusal :=
  .next (s.takeRequest 0x03 tag false body actGetClock)

/-- GET_RECORD, kind 0x1C. -/
def execGetRecord (tag : Byte) (body : Body RecordReq) (s : State) : Host.Outcome State Fault Refusal :=
  .next (s.takeRequest 0x1C tag false body actGetRecord)

/-- GET_TEMPLATE, kind 0x21. -/
def execGetTemplate (tag : Byte) (body : Body Nat) (s : State) : Host.Outcome State Fault Refusal :=
  .next (s.takeRequest 0x21 tag false body actGetTemplate)

/-- GET_SEGMENT, kind 0x40. -/
def execGetSegment (tag : Byte) (body : Body Nat) (s : State) : Host.Outcome State Fault Refusal :=
  .next (s.takeRequest 0x40 tag false body actGetSegment)

/-- GET_GATE, kind 0x41. -/
def execGetGate (tag : Byte) (body : Body Nat) (s : State) : Host.Outcome State Fault Refusal :=
  .next (s.takeRequest 0x41 tag false body actGetGate)

/-- GET_SIGN, kind 0x42. -/
def execGetSign (tag : Byte) (body : Body Nat) (s : State) : Host.Outcome State Fault Refusal :=
  .next (s.takeRequest 0x42 tag false body actGetSign)

/-- GET_PATH, kind 0x43. -/
def execGetPath (tag : Byte) (body : Body Nat) (s : State) : Host.Outcome State Fault Refusal :=
  .next (s.takeRequest 0x43 tag false body actGetPath)

/-- GET_TRIGGER, kind 0x44. -/
def execGetTrigger (tag : Byte) (body : Body Nat) (s : State) : Host.Outcome State Fault Refusal :=
  .next (s.takeRequest 0x44 tag false body actGetTrigger)

/-- GET_QUANTITIES, kind 0x45. -/
def execGetQuantities (tag : Byte) (body : Body Unit) (s : State) : Host.Outcome State Fault Refusal :=
  .next (s.takeRequest 0x45 tag false body actGetQuantities)

/-- GET_SCHEDULE, kind 0x46. -/
def execGetSchedule (tag : Byte) (body : Body Nat) (s : State) : Host.Outcome State Fault Refusal :=
  .next (s.takeRequest 0x46 tag false body actGetSchedule)

/-- GET_SUPPLY, kind 0x47. -/
def execGetSupply (tag : Byte) (body : Body Unit) (s : State) : Host.Outcome State Fault Refusal :=
  .next (s.takeRequest 0x47 tag false body actGetSupply)

/-- FETCH_REPORTS, kind 0x48. -/
def execFetchReports (tag : Byte) (body : Body Unit) (s : State) : Host.Outcome State Fault Refusal :=
  .next (s.takeRequest 0x48 tag false body actFetchReports)

/-- A frame of a kind outside the catalogue (R181). -/
def execUnknownKind (kind tag : Byte) (s : State) : Host.Outcome State Fault Refusal :=
  .next (s.takeRequest kind tag false (.fits ()) fun _ _ => .refuse .unknownKind)

end Sys2Proof.Machine
end

