-- ==== Sys2Proof/Machine/Dispatch.lean ====
section
/-! DEFINITION. Which command has which meaning: one arm per constructor of Instr. -/

namespace Sys2Proof.Machine

/-- The effect of a command on everything but the queue. -/
def exec (i : Instr) (s : State) : Host.Outcome State Fault Refusal :=
  match i with
  | .getIdentity tag body => Sys2Proof.Machine.execGetIdentity tag body s
  | .setClock tag body => Sys2Proof.Machine.execSetClock tag body s
  | .getClock tag body => Sys2Proof.Machine.execGetClock tag body s
  | .putSegment tag body => Sys2Proof.Machine.execPutSegment tag body s
  | .putGate tag body => Sys2Proof.Machine.execPutGate tag body s
  | .putSign tag body => Sys2Proof.Machine.execPutSign tag body s
  | .putTimebase tag body => Sys2Proof.Machine.execPutTimebase tag body s
  | .putChannel tag body => Sys2Proof.Machine.execPutChannel tag body s
  | .putStation tag body => Sys2Proof.Machine.execPutStation tag body s
  | .putTrigger tag body => Sys2Proof.Machine.execPutTrigger tag body s
  | .putPath tag body => Sys2Proof.Machine.execPutPath tag body s
  | .putSchedule tag body => Sys2Proof.Machine.execPutSchedule tag body s
  | .putSupply tag body => Sys2Proof.Machine.execPutSupply tag body s
  | .setZone tag body => Sys2Proof.Machine.execSetZone tag body s
  | .setAttention tag body => Sys2Proof.Machine.execSetAttention tag body s
  | .getRecord tag body => Sys2Proof.Machine.execGetRecord tag body s
  | .saveConfig tag body => Sys2Proof.Machine.execSaveConfig tag body s
  | .putTemplate tag body => Sys2Proof.Machine.execPutTemplate tag body s
  | .getTemplate tag body => Sys2Proof.Machine.execGetTemplate tag body s
  | .closeSegment tag body => Sys2Proof.Machine.execCloseSegment tag body s
  | .releaseSegment tag body => Sys2Proof.Machine.execReleaseSegment tag body s
  | .reopenSegment tag body => Sys2Proof.Machine.execReopenSegment tag body s
  | .servicePass tag body => Sys2Proof.Machine.execServicePass tag body s
  | .resetGateFault tag body => Sys2Proof.Machine.execResetGateFault tag body s
  | .declareHazard tag body => Sys2Proof.Machine.execDeclareHazard tag body s
  | .clearPath tag body => Sys2Proof.Machine.execClearPath tag body s
  | .postNotice tag body => Sys2Proof.Machine.execPostNotice tag body s
  | .withdrawNotice tag body => Sys2Proof.Machine.execWithdrawNotice tag body s
  | .restart tag body => Sys2Proof.Machine.execRestart tag body s
  | .getSegment tag body => Sys2Proof.Machine.execGetSegment tag body s
  | .getGate tag body => Sys2Proof.Machine.execGetGate tag body s
  | .getSign tag body => Sys2Proof.Machine.execGetSign tag body s
  | .getPath tag body => Sys2Proof.Machine.execGetPath tag body s
  | .getTrigger tag body => Sys2Proof.Machine.execGetTrigger tag body s
  | .getQuantities tag body => Sys2Proof.Machine.execGetQuantities tag body s
  | .getSchedule tag body => Sys2Proof.Machine.execGetSchedule tag body s
  | .getSupply tag body => Sys2Proof.Machine.execGetSupply tag body s
  | .fetchReports tag body => Sys2Proof.Machine.execFetchReports tag body s
  | .unknownKind kind tag => Sys2Proof.Machine.execUnknownKind kind tag s
  | .cabinetFrameDiscarded why => Sys2Proof.Machine.execCabinetFrameDiscarded why s
  | .interByteGapTimeout b => Sys2Proof.Machine.execInterByteGapTimeout b s
  | .replySent => Sys2Proof.Machine.execReplySent s
  | .powerOn strap1 strap2 => Sys2Proof.Machine.execPowerOn strap1 strap2 s
  | .brownOut => Sys2Proof.Machine.execBrownOut s
  | .resetLineLow => Sys2Proof.Machine.execResetLineLow s
  | .resetLineHigh strap1 strap2 => Sys2Proof.Machine.execResetLineHigh strap1 strap2 s
  | .loadingEnd => Sys2Proof.Machine.execLoadingEnd s
  | .limitSwitchChange g up down => Sys2Proof.Machine.execLimitSwitchChange g up down s
  | .presenceChange g level => Sys2Proof.Machine.execPresenceChange g level s
  | .driverTrip g level => Sys2Proof.Machine.execDriverTrip g level s
  | .travelTimeout g => Sys2Proof.Machine.execTravelTimeout g s
  | .pauseExpiry g => Sys2Proof.Machine.execPauseExpiry g s
  | .holdOffExpiry g => Sys2Proof.Machine.execHoldOffExpiry g s
  | .retryDelayExpiry g => Sys2Proof.Machine.execRetryDelayExpiry g s
  | .displacementExpiry g => Sys2Proof.Machine.execDisplacementExpiry g s
  | .rampStep g => Sys2Proof.Machine.execRampStep g s
  | .noticeTimerExpiry seg => Sys2Proof.Machine.execNoticeTimerExpiry seg s
  | .sweepTimerExpiry seg => Sys2Proof.Machine.execSweepTimerExpiry seg s
  | .passTimerExpiry g => Sys2Proof.Machine.execPassTimerExpiry g s
  | .timebaseWrap t => Sys2Proof.Machine.execTimebaseWrap t s
  | .flashSlotAdvance => Sys2Proof.Machine.execFlashSlotAdvance s
  | .captureEdge c rising => Sys2Proof.Machine.execCaptureEdge c rising s
  | .lowWidthDebounceReached c => Sys2Proof.Machine.execLowWidthDebounceReached c s
  | .highTimeReached c => Sys2Proof.Machine.execHighTimeReached c s
  | .binClose c => Sys2Proof.Machine.execBinClose c s
  | .confirmTimerExpiry p => Sys2Proof.Machine.execConfirmTimerExpiry p s
  | .sampleCompletion => Sys2Proof.Machine.execSampleCompletion s
  | .secondEvent => Sys2Proof.Machine.execSecondEvent s
  | .rerenderCheck => Sys2Proof.Machine.execRerenderCheck s
  | .templateWriteComplete readBackMatches => Sys2Proof.Machine.execTemplateWriteComplete readBackMatches s
  | .configSaveComplete readBackMatches => Sys2Proof.Machine.execConfigSaveComplete readBackMatches s
  | .pollDue h => Sys2Proof.Machine.execPollDue h s
  | .statusReceived st => Sys2Proof.Machine.execStatusReceived st s
  | .ackReceived => Sys2Proof.Machine.execAckReceived s
  | .nakReceived => Sys2Proof.Machine.execNakReceived s
  | .stallReceived => Sys2Proof.Machine.execStallReceived s
  | .badAnswerReceived why => Sys2Proof.Machine.execBadAnswerReceived why s
  | .answerWindowExpiry bytesSeen => Sys2Proof.Machine.execAnswerWindowExpiry bytesSeen s
  | .nakWaitExpiry => Sys2Proof.Machine.execNakWaitExpiry s
  | .linkByteOutsideWindow b => Sys2Proof.Machine.execLinkByteOutsideWindow b s
  | .analogConversionComplete input code => Sys2Proof.Machine.execAnalogConversionComplete input code s
  | .huntByteDiscarded b => Sys2Proof.Machine.execHuntByteDiscarded b s

end Sys2Proof.Machine
end

