-- ==== Sys2Proof/Machine/Time.lean ====
section
/-! DEFINITION. The passing of time: which timed rows have come due, and what an empty queue does in place of idling
(log 2). -/

namespace Sys2Proof.Machine

/-- A moment has come. -/
def Site.come (e : Site) (t : Option Nat) : Bool := t.any fun x => decide (x ≤ e.now)

/-- A row, if its moment has come. -/
def rowIf (b : Bool) (i : Instr) : List Instr := if b then [i] else []

/-- The due rows of one gate: its six timers and its pass. -/
def gateRows (s : State) (g : GateId) : List Instr :=
  let x := s.road.gate g
  rowIf (s.site.come x.travelTimer) (.travelTimeout g) ++ rowIf (s.site.come x.pauseTimer) (.pauseExpiry g) ++
  rowIf (s.site.come x.holdOffTimer) (.holdOffExpiry g) ++ rowIf (s.site.come x.retryTimer) (.retryDelayExpiry g) ++
  rowIf (s.site.come x.displaceTimer) (.displacementExpiry g) ++ rowIf (s.site.come x.rampTimer) (.rampStep g) ++
  rowIf (s.site.come (s.road.pass g).expiry) (.passTimerExpiry g)

/-- The due rows of one segment. -/
def segmentRows (s : State) (n : SegId) : List Instr :=
  let x := s.road.segment n
  rowIf (s.site.come x.noticeTimer) (.noticeTimerExpiry n) ++ rowIf (s.site.come x.sweepTimer) (.sweepTimerExpiry n)

/-- A LOWWIDTH channel of a RUNNING part whose low width has reached the debounce time (R62). -/
def Site.lowDue (e : Site) (c : ChanId) : Bool :=
  e.running && (e.chanCfg c).mode == .lowWidth && !e.seenHigh c && (e.chan c).continuity != .broken &&
    decide (e.debounce c ≤ e.lowMs c)

/-- A LOWWIDTH channel of a RUNNING part whose high time has reached 2000 ms (R62). -/
def Site.highDue (e : Site) (c : ChanId) : Bool :=
  e.running && (e.chanCfg c).mode == .lowWidth && e.seenHigh c && (e.chan c).continuity != .intact &&
    decide (2000 ≤ e.highMs c)

/-- The due rows of one capture channel. -/
def channelRows (s : State) (c : ChanId) : List Instr :=
  rowIf (s.site.lowDue c) (.lowWidthDebounceReached c) ++ rowIf (s.site.highDue c) (.highTimeReached c) ++
  rowIf (s.site.come (s.site.chan c).binEnd) (.binClose c)

/-- A head that has fallen due and is neither due already nor in a transaction (R159). -/
def headRows (s : State) (h : SignId) : List Instr :=
  rowIf (s.site.running && (s.road.head h).due.isNone && !s.road.busyWith h && s.site.come (s.site.dueAt (s.road.head h)))
    (.pollDue h)

/-- Every row whose moment has come, in a fixed order (log 2). -/
def dueRows (s : State) : List Instr :=
  (List.finRange 4).flatMap (fun t => rowIf (s.site.come (s.site.wrapAt t)) (.timebaseWrap t)) ++
  rowIf (s.site.come s.site.slotAt) .flashSlotAdvance ++
  (List.finRange 12).flatMap (channelRows s) ++
  (List.finRange 8).flatMap (fun p => rowIf (s.site.come (s.site.path p).confirmTimer) (.confirmTimerExpiry p)) ++
  (List.finRange 8).flatMap (gateRows s) ++
  (List.finRange 6).flatMap (segmentRows s) ++
  rowIf (s.site.come s.site.sampleEnd) .sampleCompletion ++
  rowIf (s.site.come s.site.secondEnd) .secondEvent ++
  rowIf (s.site.come s.site.rerenderAt) .rerenderCheck ++
  rowIf (s.site.come s.road.windowEnd) (.answerWindowExpiry false) ++
  rowIf (s.site.come s.road.nakWaitEnd) .nakWaitExpiry ++
  (List.finRange 16).flatMap (headRows s)

/-- One microsecond of the reference passes and the rows that have come due join the queue (log 2). -/
def State.idle (s : State) : State :=
  let s1 := s.mapSite fun e => { e with now := e.now + 1 }
  { s1 with pending := s1.pending ++ dueRows s1 }

end Sys2Proof.Machine
end

