-- ==== Sys2Proof/Machine/Wire.lean ====
section
/-! DEFINITION. Request frames on the cabinet line: the fields of each request body, the command a complete frame is, and
the receiver (R180, R181, R188; log 21, log 28). -/

namespace Sys2Proof.Machine

/-! ## Fields (R188) -/

/-- A field of n bytes, high byte first, as an unsigned number, and the bytes behind it. -/
def takeNat : Nat → Nat → List Byte → Option (Nat × List Byte)
  | 0, acc, l => some (acc, l)
  | _ + 1, _, [] => none
  | n + 1, acc, b :: l => takeNat n (acc * 256 + b.toNat) l

/-- The fields of the given widths, if the body is exactly as long as they are. -/
def splitFields : List Nat → List Byte → Option (List Nat)
  | [], [] => some []
  | [], _ :: _ => none
  | n :: ns, l =>
    match takeNat n 0 l with
    | some (v, rest) => (splitFields ns rest).map (v :: ·)
    | none => none

/-- A field of n bytes in signed two's complement. -/
def signedField (n v : Nat) : Int := if v < 2 ^ (8 * n - 1) then v else (v : Int) - 2 ^ (8 * n)

/-- The value at a position of the list that defines it, from 0. -/
def enumAt {α : Type} (l : List α) (n : Nat) : Option α := l[n]?

/-- Yes or no: no 0, yes 1. -/
def yesNo (n : Nat) : Option Bool := enumAt [false, true] n

/-- An input or channel byte, 255 for none (log 21). -/
def maybeField (n : Nat) : MaybeIndex := if n = 255 then .absent else .num n

/-- A quantity by its position in the table. -/
def quantField (n : Nat) : Option Quant := (index0 22 n).map quantAt

/-- A class of report: INFO 0, NOTICE 1, ALERT 2, URGENT 3. -/
def classField (n : Nat) : Option ReportClass := enumAt [.info, .notice, .alert, .urgent] n

/-- A body read by the widths of its fields (R181, BAD_LENGTH). -/
def bodyOf {α : Type} (widths : List Nat) (f : List Nat → Option α) (l : List Byte) : Body α :=
  match (splitFields widths l).bind f with
  | some a => .fits a
  | none => .misfit

/-- A body of no fields. -/
def emptyBody (l : List Byte) : Body Unit := bodyOf [] (fun _ => some ()) l

/-- A body of one index. -/
def indexBody (l : List Byte) : Body Nat := bodyOf [1] (fun v => v.head?) l

/-! ## Bodies of requests with several fields -/

def clockBody (l : List Byte) : Body ClockValue := bodyOf [4] (fun v => v.head?.map (BitVec.ofNat 32)) l

def segmentBody (l : List Byte) : Body SegmentReq :=
  bodyOf [1, 1, 2, 1, 2, 2, 1] (fun v =>
    match v with
    | [i, en, ns, t, lim, sw, m] =>
      some { index := i, enabled := yesNo en, noticeSet := BitVec.ofNat 16 ns, closureTemplate := t, noticeLimit := lim
             sweepTime := sw, reopenMode := enumAt [.automatic, .confirmed] m }
    | _ => none) l

def gateBody (l : List Byte) : Body GateReq :=
  bodyOf [1, 1, 1, 1, 1, 1, 1, 2, 1, 1] (fun v =>
    match v with
    | [i, en, b, s, tl, sd, rd, rp, n, pr] =>
      some { index := i, enabled := yesNo en, boundary := b, guarded := s, travelLimit := tl, startDuty := sd
             runDuty := rd, reversalPause := rp, retries := n, presenceUsed := yesNo pr }
    | _ => none) l

def signBody (l : List Byte) : Body SignReq :=
  bodyOf [1, 1, 1, 1] (fun v =>
    match v with
    | [i, en, b, t] => some { index := i, enabled := yesNo en, maxBrightness := b, standing := t }
    | _ => none) l

def timebaseBody (l : List Byte) : Body TimebaseReq :=
  bodyOf [1, 1, 1] (fun v =>
    match v with
    | [i, r, m] =>
      some { index := i, rate := enumAt [.mhz1, .khz125, .khz15, .khz2] r, mode := enumAt [.free, .flash] m }
    | _ => none) l

def channelBody (l : List Byte) : Body ChannelReq :=
  bodyOf [1, 1, 1, 1, 1] (fun v =>
    match v with
    | [i, m, n, t, p] =>
      some { index := i, mode := enumAt [.off, .period, .lowWidth, .count] m, edges := enumAt [.one, .four, .sixteen] n
             timebase := t, inverted := yesNo p }
    | _ => none) l

/-- A calibration pair of two signed fields. -/
def calField (lo hi : Nat) : Calibration := { lo := signedField 2 lo, hi := signedField 2 hi }

def stationBody (l : List Byte) : Body StationReq :=
  bodyOf [1, 1, 2, 2, 1, 2, 2, 1, 2, 2, 1, 2] (fun v =>
    match v with
    | [i, a, al, ah, s, sl, sh, r, rl, rh, w, k] =>
      some { index := i, airInput := maybeField a, airCal := calField al ah, surfInput := maybeField s
             surfCal := calField sl sh, rhInput := maybeField r, rhCal := calField rl rh, wind := maybeField w, k := k }
    | _ => none) l

def triggerBody (l : List Byte) : Body TriggerReq :=
  bodyOf [1, 1, 1, 1, 2, 2, 1, 1, 1, 2, 1, 2] (fun v =>
    match v with
    | [i, en, src, rel, sl, cl, sc, cc, why, segs, t, sgn] =>
      some { index := i, enabled := yesNo en, source := quantField src, relation := enumAt [.above, .below] rel
             setLevel := signedField 2 sl, clearLevel := signedField 2 cl, setCount := sc, clearCount := cc
             reason := enumAt [.wind, .ice, .snow, .visibility, .other] why, segments := BitVec.ofNat 16 segs
             template := t, signs := BitVec.ofNat 16 sgn }
    | _ => none) l

def pathBody (l : List Byte) : Body PathReq :=
  bodyOf [1, 1, 1, 1, 1, 1, 2, 2, 1, 1, 1, 1, 1, 2, 1, 2, 1, 1, 1, 1] (fun v =>
    match v with
    | [i, en, c1, k1, c2, k2, d1, d2, t1, t2, w1, w2, m, cw, s, sgn, ta, th, be, ph] =>
      let kind := fun n => enumAt [DetKind.tripline, .seismic] n
      some { index := i, enabled := yesNo en
             det1 := { chan := maybeField c1, kind := kind k1, debounce := d1, threshold := t1, window := w1 }
             det2 := { chan := maybeField c2, kind := kind k2, debounce := d2, threshold := t2, window := w2 }
             mode := enumAt [.any, .both] m, confirmWindow := cw, crossing := s, signs := BitVec.ofNat 16 sgn
             avalancheTemplate := ta, hazardTemplate := th, beaconEnabled := yesNo be
             beaconPhase := enumAt [.a, .b] ph }
    | _ => none) l

def scheduleBody (l : List Byte) : Body ScheduleReq :=
  bodyOf [1, 1, 1, 4, 4, 4, 2, 1, 2] (fun v =>
    match v with
    | [i, en, k, c, o, ld, segs, t, sgn] =>
      some { index := i, enabled := yesNo en, kind := enumAt [.once, .daily] k, closeTime := c, openTime := o
             lead := ld, segments := BitVec.ofNat 16 segs, template := t, signs := BitVec.ofNat 16 sgn }
    | _ => none) l

/-- PUT_SUPPLY. R188 names no kind for the stage thresholds; they are read as levels, in two's complement, as the quantity they
are compared with is, so a field of 0x8000 or more is below 0 and is clamped to 0 (DESIGN CHOICE, log 21). -/
def supplyBody (l : List Byte) : Body SupplyCfg :=
  bodyOf [2, 2, 2, 2, 2, 2] (fun v =>
    match v with
    | [a, b, c, d, lo, hi] =>
      some { ecoEnter := signedField 2 a, ecoLeave := signedField 2 b, resEnter := signedField 2 c
             resLeave := signedField 2 d, cal := calField lo hi }
    | _ => none) l

def zoneBody (l : List Byte) : Body Int := bodyOf [4] (fun v => v.head?.map (signedField 4)) l

def attentionBody (l : List Byte) : Body (Option ReportClass) := bodyOf [1] (fun v => v.head?.map classField) l

def recordBody (l : List Byte) : Body RecordReq :=
  bodyOf [1, 1] (fun v => match v with | [k, i] => some { kind := k, index := i } | _ => none) l

def passBody (l : List Byte) : Body PassReq :=
  bodyOf [1, 2] (fun v => match v with | [g, d] => some { gate := g, duration := d } | _ => none) l

def hazardBody (l : List Byte) : Body HazardReq :=
  bodyOf [1, 1] (fun v => match v with | [p, c] => some { path := p, close := yesNo c } | _ => none) l

def noticeBody (l : List Byte) : Body NoticeReq :=
  bodyOf [1, 2, 1] (fun v =>
    match v with
    | [n, sgn, t] => some { slot := n, signs := BitVec.ofNat 16 sgn, template := t }
    | _ => none) l

/-- The items of a template line of so many bytes: a field kind takes the byte behind it as its argument; one that is the
last byte, and a byte that is neither a character nor a field kind, is bad (R188). -/
def lineItems : List Byte → List RawItem
  | [] => []
  | [b] => if 32 ≤ b.toNat ∧ b.toNat ≤ 126 then [.char b.toNat] else [.bad]
  | b :: a :: rest =>
    if 32 ≤ b.toNat ∧ b.toNat ≤ 126 then .char b.toNat :: lineItems (a :: rest)
    else if 1 ≤ b.toNat ∧ b.toNat ≤ 6 then .field b.toNat a.toNat :: lineItems rest
    else .bad :: lineItems (a :: rest)

/-- Lines of a byte count and that many bytes, n of them and nothing behind (R188). -/
def takeLines : Nat → List Byte → Option (List (List RawItem))
  | 0, [] => some []
  | 0, _ :: _ => none
  | _ + 1, [] => none
  | n + 1, c :: l =>
    if c.toNat ≤ l.length then (takeLines n (l.drop c.toNat)).map (lineItems (l.take c.toNat) :: ·) else none

def templateBody (l : List Byte) : Body TemplateReq :=
  match l with
  | [] => .misfit
  | s :: rest =>
    match takeLines 3 rest with
    | some ls => .fits { slot := s.toNat, lines := ls }
    | none => .misfit

/-! ## The catalogue (R188, request kinds) -/

/-- The command that a complete frame is. -/
def requestOf (kind tag : Byte) (l : List Byte) : Instr :=
  match kind.toNat with
  | 0x01 => .getIdentity tag (emptyBody l)
  | 0x02 => .setClock tag (clockBody l)
  | 0x03 => .getClock tag (emptyBody l)
  | 0x10 => .putSegment tag (segmentBody l)
  | 0x11 => .putGate tag (gateBody l)
  | 0x12 => .putSign tag (signBody l)
  | 0x13 => .putTimebase tag (timebaseBody l)
  | 0x14 => .putChannel tag (channelBody l)
  | 0x15 => .putStation tag (stationBody l)
  | 0x16 => .putTrigger tag (triggerBody l)
  | 0x17 => .putPath tag (pathBody l)
  | 0x18 => .putSchedule tag (scheduleBody l)
  | 0x19 => .putSupply tag (supplyBody l)
  | 0x1A => .setZone tag (zoneBody l)
  | 0x1B => .setAttention tag (attentionBody l)
  | 0x1C => .getRecord tag (recordBody l)
  | 0x1D => .saveConfig tag (emptyBody l)
  | 0x20 => .putTemplate tag (templateBody l)
  | 0x21 => .getTemplate tag (indexBody l)
  | 0x30 => .closeSegment tag (indexBody l)
  | 0x31 => .releaseSegment tag (indexBody l)
  | 0x32 => .reopenSegment tag (indexBody l)
  | 0x33 => .servicePass tag (passBody l)
  | 0x34 => .resetGateFault tag (indexBody l)
  | 0x35 => .declareHazard tag (hazardBody l)
  | 0x36 => .clearPath tag (indexBody l)
  | 0x37 => .postNotice tag (noticeBody l)
  | 0x38 => .withdrawNotice tag (indexBody l)
  | 0x39 => .restart tag (emptyBody l)
  | 0x40 => .getSegment tag (indexBody l)
  | 0x41 => .getGate tag (indexBody l)
  | 0x42 => .getSign tag (indexBody l)
  | 0x43 => .getPath tag (indexBody l)
  | 0x44 => .getTrigger tag (indexBody l)
  | 0x45 => .getQuantities tag (emptyBody l)
  | 0x46 => .getSchedule tag (indexBody l)
  | 0x47 => .getSupply tag (emptyBody l)
  | 0x48 => .fetchReports tag (emptyBody l)
  | _ => .unknownKind kind tag

/-! ## The receiver (R180) -/

/-- The CRC of a frame is over its length byte, kind, tag and body. -/
def frameCrc (len : Nat) (got : List Byte) : BitVec 16 := crc16 (BitVec.ofNat 8 len :: got)

/-- The row of a frame whose last CRC byte has come. -/
def frameRow (len : Nat) (got : List Byte) (hi lo : Byte) : Instr :=
  if bytes16 (frameCrc len got) = [hi, lo] then
    match got with
    | k :: t :: body => requestOf k t body
    | _ => .cabinetFrameDiscarded .badLength
  else .cabinetFrameDiscarded .badCrc

/-- The receiver takes a byte: its next state, and the row that comes about, if any (R180). -/
def Receiver.byte (b : Byte) : Receiver → Receiver × Option Instr
  | .hunt => if b = startByte then (.length, none) else (.hunt, some (.huntByteDiscarded b))
  | .length =>
    if 2 ≤ b.toNat ∧ b.toNat ≤ 250 then (.body b.toNat [], none) else (.hunt, some (.cabinetFrameDiscarded .badLength))
  | .body len got =>
    if got.length + 1 < len then (.body len (got ++ [b]), none) else (.check len (got ++ [b]) none, none)
  | .check len got none => (.check len got (some b), none)
  | .check len got (some hi) => (.hunt, some (frameRow len got hi b))

/-- The receiver of a frame in progress. -/
def Receiver.inFrame : Receiver → Bool
  | .hunt => false
  | _ => true

/-- What a byte with or without a stop-bit error, after more or less than 20 ms, makes of the receiver (R180). -/
def Receiver.arrival (stopError gap : Bool) (b : Byte) (x : Receiver) : Receiver × Option Instr :=
  if x.inFrame && gap then
    if stopError then (.hunt, some (.cabinetFrameDiscarded .stopBit)) else (judgeInHunt b, some (.interByteGapTimeout b))
  else if stopError then (.hunt, some (if x.inFrame then .cabinetFrameDiscarded .stopBit else .huntByteDiscarded b))
  else x.byte b

/-- A byte arrives on the cabinet line: the row it brings about joins the queue. While held no byte is taken (R177, R180;
log 28). -/
def State.receiveByte (stopError : Bool) (b : Byte) (s : State) : State :=
  if s.site.phase = .held then s
  else
    let x := s.site.rx.arrival stopError (decide (ms 20 < s.site.now - s.site.rxLast)) b
    let s1 := s.mapSite fun e => { e with rx := x.1, rxLast := e.now }
    { s1 with pending := s1.pending ++ x.2.toList }

end Sys2Proof.Machine
end

