-- ==== Sys2Proof/Machine/Frames.lean ====
section
/-! DEFINITION. Bytes that leave the controller, and the judging of link frames: sign link frames and answers (R146, R149,
R189), report records, reply frames and reply bodies (R182, R188). What R188 leaves open in a body is log 21 and log 22. -/

namespace Sys2Proof.Machine

/-! ## Fields -/

/-- One byte. -/
def byteOf (n : Nat) : Byte := BitVec.ofNat 8 n

/-- A signed field of n bytes in two's complement. -/
def signedBytes (n : Nat) (v : Int) : List Byte := bytesOf n (v % 2 ^ (8 * n)).toNat

/-- Yes 1, no 0. -/
def boolByte (b : Bool) : Byte := if b then 1 else 0

/-- A claim source: source kind x 32 + index, 0 for STANDING (R188). -/
def sourceCode : Option Source → Nat
  | none => 0
  | some (.segment s) => 1 * 32 + (s.val + 1)
  | some (.path p) => 2 * 32 + (p.val + 1)
  | some (.trigger k) => 3 * 32 + (k.val + 1)
  | some (.schedule e) => 4 * 32 + (e.val + 1)
  | some (.operator n) => 5 * 32 + (n.val + 1)

/-! ## Sign link frames (R189) -/

/-- The start byte of a link frame. -/
def linkStart : Byte := 0x5A

/-- A link frame: the check is over the address through the payload. -/
def linkFrame (addr kind control : Byte) (payload : List Byte) : List Byte :=
  let l := addr :: kind :: byteOf payload.length :: control :: payload
  linkStart :: l ++ bytes16 (crc16 l)

/-- The address byte of a head. -/
def headAddress (h : SignId) : Byte := byteOf (h.val + 1)

/-- The class byte of a page: STANDING is 6. -/
def pageClass : Option ClaimClass → Byte
  | some c => byteOf c.num
  | none => 6

/-- The COMMAND payload. -/
def commandPayload (s : SentPage) : List Byte :=
  [s.tag, byteOf s.page.template.val, pageClass s.page.cls, byteOf (sourceCode s.page.claim), byteOf s.page.cap,
    boolByte s.page.flashing] ++ bytesOf 2 s.page.text.sum ++ [3, 18]

/-- The TEXT payload: packet 1 carries characters 1 to 27, packet 2 characters 28 to 54. -/
def textPayload (n : Nat) (s : SentPage) : List Byte :=
  byteOf n :: ((s.page.text.drop (27 * (n - 1))).take 27).map byteOf

/-- The frame of a step to a head, from the sent page as it now stands: a packet sent again after R140 has relabelled that
page carries its new class, source and template (DESIGN CHOICE, log 40). -/
def stepFrame (r : Road) (t : Transaction) : Option (List Byte) :=
  let a := headAddress t.head
  match t.step, (r.sign t.head).sent with
  | .poll, _ | .confirm, _ => some (linkFrame a 0x01 0 [])
  | .command, some s => some (linkFrame a 0x02 (boolByte t.toggle) (commandPayload s))
  | .text1, some s => some (linkFrame a 0x03 (boolByte t.toggle) (textPayload 1 s))
  | .text2, some s => some (linkFrame a 0x03 (boolByte t.toggle) (textPayload 2 s))
  | _, none => none

/-- The frame the controller has sent in the exchange in progress (R146). -/
def Road.frameSent (r : Road) : Option (List Byte) :=
  match r.link with
  | some t =>
    match t.wait with
    | .answer _ => stepFrame r t
    | .nak _ => none
  | none => none

/-- Payload length fixed for an answer's kind. -/
def answerLength : Byte → Option Nat
  | 0x81 => some 8
  | 0x82 | 0x83 | 0x84 => some 0
  | _ => none

/-- The fields of a STATUS payload; none for a head state or expected toggle other than 0 or 1. -/
def statusOf (p : List Byte) : Option HeadStatus :=
  match p with
  | [st, tag, tg, br, fl, a1, a2, lp] =>
    match enumAt [HeadPhase.ready, .starting] st.toNat, yesNo tg.toNat with
    | some ph, some t =>
      some { phase := ph, shownTag := tag, toggle := t, brightness := br, displayFail := fl.getLsbD 0
             doorOpen := fl.getLsbD 1, heaterFail := fl.getLsbD 2, ambient := BitVec.ofNat 16 (a1.toNat * 256 + a2.toNat)
             latestPacket := lp }
    | _, _ => none
  | _ => none

/-- What an answer of the expected kinds is. -/
def answerRow (isData : Bool) (kind : Byte) (payload : List Byte) : Instr :=
  match isData, kind with
  | false, 0x81 =>
    match statusOf payload with
    | some st => .statusReceived st
    | none => .badAnswerReceived .field
  | true, 0x82 => .ackReceived
  | true, 0x83 => .nakReceived
  | true, 0x84 => .stallReceived
  | _, _ => .badAnswerReceived .kind

/-- A complete frame received in the answer window is judged (R146, R189); the control byte is not. -/
def judgeFrame (h : SignId) (isData : Bool) (addr kind len control : Byte) (payload : List Byte) (check : List Byte) :
    Instr :=
  if check ≠ bytes16 (crc16 (addr :: kind :: len :: control :: payload)) then .badAnswerReceived .check
  else if answerLength kind ≠ some len.toNat ∧ (answerLength kind).isSome then .badAnswerReceived .length
  else if addr ≠ headAddress h then .badAnswerReceived .address
  else answerRow isData kind payload

/-- A complete frame on the link in the state of the transaction; none where the bytes are no complete frame or no answer
window is open. -/
def Road.judge (r : Road) (l : List Byte) : Option Instr :=
  match r.link, l with
  | some t, s :: addr :: kind :: len :: control :: rest =>
    match t.wait with
    | .answer _ =>
      if s = linkStart ∧ rest.length = len.toNat + 2 then
        some (judgeFrame t.head t.step.isData addr kind len control (rest.take len.toNat) (rest.drop len.toNat))
      else none
    | .nak _ => none
  | _, _ => none

/-! ## Report records (R188) -/

/-- Report kind codes. -/
def ReportKind.code : ReportKind → Byte
  | .start => 0x01 | .storeDone => 0x02 | .storeFault => 0x03 | .supplyStage => 0x04 | .clockSet => 0x05
  | .scheduleState => 0x06
  | .segmentState => 0x10 | .noticeExpired => 0x11 | .segmentUnguarded => 0x12 | .reopenBlocked => 0x13
  | .passEnded => 0x14 | .passCancelled => 0x15
  | .gateFault => 0x18 | .gateTripped => 0x19 | .gateObstructed => 0x1A | .gateObstructedAvalanche => 0x1B
  | .gateDisplaced => 0x1C
  | .sensorFault => 0x20 | .sensorRestored => 0x21 | .triggerActive => 0x22 | .triggerCleared => 0x23
  | .pathSuspect => 0x28 | .pathReleased => 0x29 | .pathUnconfirmed => 0x2A | .pathCleared => 0x2B
  | .hazardDeclared => 0x2C
  | .triplineFoundBroken => 0x32 | .triplineRestored => 0x33 | .pathDegraded => 0x34 | .pathBlind => 0x35
  | .pathCoverageRestored => 0x36
  | .claimDisplaced => 0x40 | .claimRefused => 0x41 | .templateEmpty => 0x42 | .templateBad => 0x43
  | .headLinkState => 0x48 | .headLinkLost => 0x49 | .headStalled => 0x4A | .loadAbandoned => 0x4B
  | .loadUnconfirmed => 0x4C | .headFlags => 0x4D | .headRestarted => 0x4E

/-- Position in a defining list. -/
def StartCause.code : StartCause → Nat
  | .power => 0 | .line => 1 | .restart => 2

/-- Position in a defining list. -/
def Stage.code : Stage → Nat
  | .normal => 0 | .economy => 1 | .reserve => 2

/-- Position in a defining list. -/
def SchedState.code : SchedState → Nat
  | .idle => 0 | .lead => 1 | .closing => 2 | .ended => 3

/-- Position in a defining list. -/
def SegState.code : SegState → Nat
  | .open => 0 | .notice => 1 | .clearing => 2 | .closed => 3 | .reopening => 4

/-- Gate state codes (R188). -/
def GateState.code : GateState → Nat
  | .unknown => 0 | .up => 1 | .down => 2 | .waitLower => 3 | .waitRaise => 4 | .lowering => 5 | .raising => 6
  | .paused => 7 | .blocked => 8 | .tripped => 9 | .faulted => 10

/-- Position in a defining list. -/
def PassEnd.code : PassEnd → Nat
  | .expiry => 0 | .reopening => 1 | .gateFault => 2 | .rewrite => 3

/-- Position in a defining list. -/
def FaultCause.code : FaultCause → Nat
  | .travelTimeout => 0 | .driveTrip => 1 | .limitConflict => 2

/-- Position in a defining list. -/
def reasonCode : Reason → Nat
  | .wind => 0 | .ice => 1 | .snow => 2 | .visibility => 3 | .other => 4

/-- Position in a defining list. -/
def ClearCause.code : ClearCause → Nat
  | .samples => 0 | .sourceAbsent => 1 | .rewrite => 2

/-- Position in a defining list. -/
def Detection.code : Detection → Nat
  | .quiet => 0 | .suspect => 1 | .released => 2

/-- Position in a defining list. -/
def LinkState.code : LinkState → Nat
  | .unconfigured => 0 | .probing => 1 | .online => 2 | .lagging => 3 | .silent => 4 | .stalled => 5

/-- Position in a defining list. -/
def StallCause.code : StallCause → Nat
  | .stall => 0 | .displayFail => 1

/-- Position in a defining list. -/
def AbandonCause.code : AbandonCause → Nat
  | .naks => 0 | .stall => 1 | .silent => 2

/-- Quality codes (R188). -/
def Quality.code : Quality → Nat
  | .absent => 0 | .stale => 1 | .good => 2

/-- The number a report's value is on the line; TEMPLATE, CONFIG and the head flags have no code in the manual (log 9). -/
def ReportValue.code : ReportValue → Int
  | .none => 0
  | .number n => n
  | .startCause c => c.code
  | .template => Config.templateValueCode
  | .config => Config.configValueCode
  | .stage s => s.code
  | .clock v => v.toNat
  | .sched s => s.code
  | .segState s => s.code
  | .segment s => s.val + 1
  | .gate g => g.val + 1
  | .passEnd c => c.code
  | .path p => p.val + 1
  | .fault c => c.code
  | .limit d => d.restState.code
  | .reason r => reasonCode r
  | .clearCause c => c.code
  | .chan c => c.val
  | .detection d => d.code
  | .close b => if b then 1 else 0
  | .source s => sourceCode (some s)
  | .slot n => n.val
  | .link l => l.code
  | .stall c => c.code
  | .abandon c => c.code
  | .flags d h => Config.headFlagsCode d h

/-- The timestamp of a report record: present or not, and the clock value (R188). -/
def stampBytes : Option ClockValue → List Byte
  | some t => 1 :: bytesOf 4 t.toNat
  | none => 0 :: bytesOf 4 0

/-- A report record, 12 bytes (R188). -/
def reportBytes (x : Report) : List Byte :=
  [x.kind.code, byteOf x.rank, byteOf x.subject] ++ signedBytes 4 x.value.code ++ stampBytes x.stamp

/-! ## Reply frames (R182) -/

/-- Result codes (R182). -/
def ResultCode.code : ResultCode → Byte
  | .ok => 0x00 | .unknownKind => 0x01 | .badLength => 0x02 | .badIndex => 0x03 | .badValue => 0x04 | .inUse => 0x05
  | .held => 0x06 | .busy => 0x07 | .notSet => 0x08 | .notEnabled => 0x09

/-- The kind of a reply: the request kind plus 0x80, or unchanged from 0x80 on. -/
def replyKind (k : Byte) : Byte := if k.toNat < 0x80 then k + 0x80 else k

/-- A cabinet frame (R180, R188). -/
def cabinetFrame (kind tag : Byte) (body : List Byte) : List Byte :=
  let l := byteOf (body.length + 2) :: kind :: tag :: body
  startByte :: l ++ bytes16 (crc16 l)

/-! ## Records, laid out as the write request's body (R184, R188) -/

/-- An input or channel that may be none: 255 (log 21). -/
def maybeByte {k : Nat} : Option (Fin k) → Byte
  | some i => byteOf i.val
  | none => 0xFF

/-- A calibration pair. -/
def calBytes (c : Calibration) : List Byte := signedBytes 2 c.lo ++ signedBytes 2 c.hi

/-- The position of a quantity (R81). -/
def quantByte (q : Quant) : Byte := byteOf (quantPos q).val

/-- Position of the value in its list (R188). -/
def reopenByte : ReopenMode → Byte
  | .automatic => 0
  | .confirmed => 1

/-- Position of the value in its list (R188). -/
def rateByte : Rate → Byte
  | .mhz1 => 0
  | .khz125 => 1
  | .khz15 => 2
  | .khz2 => 3

/-- Position of the value in its list (R188). -/
def tbModeByte : TbMode → Byte
  | .free => 0
  | .flash => 1

/-- Position of the value in its list (R188). -/
def chanModeByte : ChanMode → Byte
  | .off => 0
  | .period => 1
  | .lowWidth => 2
  | .count => 3

/-- Position of the value in its list (R188). -/
def edgesByte : Edges → Byte
  | .one => 0
  | .four => 1
  | .sixteen => 2

/-- Position of the value in its list (R188). -/
def relationByte : Relation → Byte
  | .above => 0
  | .below => 1

/-- Position of the value in its list (R188). -/
def detModeByte : DetMode → Byte
  | .any => 0
  | .both => 1

/-- Position of the value in its list (R188). -/
def phaseByte : BeaconPhase → Byte
  | .a => 0
  | .b => 1

/-- Position of the value in its list (R188). -/
def schedKindByte : SchedKind → Byte
  | .once => 0
  | .daily => 1

def segmentBytes (n : Nat) (c : SegmentCfg) : List Byte :=
  [byteOf n, boolByte c.enabled] ++ bytesOf 2 c.noticeSet.toNat ++ [byteOf c.closureTemplate.val] ++
    bytesOf 2 c.noticeLimit ++ bytesOf 2 c.sweepTime ++ [reopenByte c.reopenMode]

def gateBytes (n : Nat) (c : GateCfg) : List Byte :=
  [byteOf n, boolByte c.enabled, byteOf c.boundary.val, byteOf (c.guarded.val + 1), byteOf c.travelLimit,
    byteOf c.startDuty, byteOf c.runDuty] ++ bytesOf 2 c.reversalPause ++ [byteOf c.retries, boolByte c.presenceUsed]

def signBytes (n : Nat) (c : SignCfg) : List Byte :=
  [byteOf n, boolByte c.enabled, byteOf c.maxBrightness, byteOf c.standing.val]

def timebaseBytes (n : Nat) (c : TimebaseCfg) : List Byte :=
  [byteOf n, rateByte c.rate,
    tbModeByte c.mode]

def channelBytes (n : Nat) (c : ChannelCfg) : List Byte :=
  [byteOf n, chanModeByte c.mode,
    edgesByte c.edges, byteOf c.timebase.val, boolByte c.inverted]

def stationBytes (n : Nat) (c : StationCfg) : List Byte :=
  [byteOf n, maybeByte c.airInput] ++ calBytes c.airCal ++ [maybeByte c.surfInput] ++ calBytes c.surfCal ++
    [maybeByte c.rhInput] ++ calBytes c.rhCal ++ [maybeByte c.wind] ++ bytesOf 2 c.k

def triggerBytes (n : Nat) (c : TriggerCfg) : List Byte :=
  [byteOf n, boolByte c.enabled, quantByte c.source, relationByte c.relation] ++
    signedBytes 2 c.setLevel ++ signedBytes 2 c.clearLevel ++
    [byteOf c.setCount, byteOf c.clearCount, byteOf (reasonCode c.reason)] ++ bytesOf 2 c.segments.toNat ++
    [byteOf c.template.val] ++ bytesOf 2 c.signs.toNat

/-- The kind byte of a detector. -/
def detKindByte : DetKind → Byte
  | .tripline => 0
  | .seismic => 1

/-- The detector of the second place, or the values its bytes have when there is none (log 21). -/
def secondDetector (c : PathCfg) : Detector := c.det2.getD { debounce := 0, threshold := 0, window := 0 }

def pathBytes (n : Nat) (c : PathCfg) : List Byte :=
  let d := secondDetector c
  [byteOf n, boolByte c.enabled, byteOf c.det1.chan.val, detKindByte c.det1.kind, maybeByte (c.det2.map (·.chan)),
    detKindByte d.kind] ++ bytesOf 2 c.det1.debounce ++ bytesOf 2 d.debounce ++
    [byteOf c.det1.threshold, byteOf d.threshold, byteOf c.det1.window, byteOf d.window,
      detModeByte c.mode] ++ bytesOf 2 c.confirmWindow ++ [byteOf (c.crossing.val + 1)] ++
    bytesOf 2 c.signs.toNat ++ [byteOf c.avalancheTemplate.val, byteOf c.hazardTemplate.val, boolByte c.beaconEnabled,
      phaseByte c.beaconPhase]

def scheduleBytes (n : Nat) (c : ScheduleCfg) : List Byte :=
  [byteOf n, boolByte c.enabled, schedKindByte c.kind] ++ bytesOf 4 c.closeTime ++
    bytesOf 4 c.openTime ++ bytesOf 4 c.lead ++ bytesOf 2 c.segments.toNat ++ [byteOf c.template.val] ++
    bytesOf 2 c.signs.toNat

def supplyBytes (c : SupplyCfg) : List Byte :=
  signedBytes 2 c.ecoEnter ++ signedBytes 2 c.ecoLeave ++ signedBytes 2 c.resEnter ++ signedBytes 2 c.resLeave ++
    calBytes c.cal

/-- A record with its index, as its write request's body (R184). -/
def recordBytes (n : Nat) : RecordValue → List Byte
  | .segment c => segmentBytes n c
  | .gate c => gateBytes n c
  | .sign c => signBytes n c
  | .timebase c => timebaseBytes n c
  | .channel c => channelBytes n c
  | .station c => stationBytes n c
  | .trigger c => triggerBytes n c
  | .path c => pathBytes n c
  | .schedule c => scheduleBytes n c
  | .supply c => supplyBytes c
  | .zone z => signedBytes 4 z
  | .attention l => [byteOf l.rank]

/-! ## Measurement status and status replies (R65, R86, R49, R99, R127, R167, R176; log 22) -/

/-- A field of n bytes whose item may be none: a free number stands for none (log 22). -/
def maybeBytes (n : Nat) (v : Option Nat) : List Byte := bytesOf n (v.getD (Config.noneField n))

/-- Position in a defining list. -/
def Continuity.code : Continuity → Nat
  | .unknown => 0 | .broken => 1 | .intact => 2

/-- Position in the list of R86; a free number for the outcome it does not list (log 34). -/
def WindOutcome.code : WindOutcome → Nat
  | .sample => 0 | .calm => 1 | .skipped => 2 | .notPeriod => 3 | .none => Config.noWindOutcome

/-- Position in a defining list. -/
def TrigState.code : TrigState → Nat
  | .disabled => 0 | .armed => 1 | .rising => 2 | .active => 3 | .falling => 4

/-- Position in a defining list. -/
def SlotKind.code : SlotKind → Nat
  | .empty => 0 | .writing => 1 | .valid => 2 | .bad => 3

/-- Position in the list of R26: UP, DOWN, none. -/
def targetCode : Option Dir → Nat
  | some .up => 0 | some .down => 1 | none => 2

/-- Position in the list of R26: the three causes, none. -/
def faultCode : Option FaultCause → Nat
  | some c => c.code
  | none => 3

/-- A latest period: its ticks, a free number for LONG, another for none. -/
def periodBytes : Option (Option Nat) → List Byte
  | some (some t) => bytesOf 4 t
  | some none => bytesOf 4 Config.longPeriod
  | none => maybeBytes 4 none

/-- Status of an analog input that is named: latest code, samples, fault flag. -/
def analogBytes : Option AnalogStatus → List Byte
  | some x => bytesOf 2 x.code ++ [byteOf x.samples, boolByte x.fault]
  | none => []

/-- Status of a wind channel that is named: samples, latest sample, outcome. -/
def windBytes : Option WindStatus → List Byte
  | some x => [byteOf x.samples] ++ maybeBytes 2 x.latest ++ [byteOf x.outcome.code]
  | none => []

/-- The measurement status that GET_RECORD adds (R65, R86). The present level of a LOWWIDTH channel, for which the manual
gives no list of values, is low 0 and high 1 (DESIGN CHOICE, log 22). -/
def statusBytes : RecordStatus → List Byte
  | .none | .channelOff => []
  | .timebase count slot => bytesOf 4 count ++ slot.toList.map fun k => byteOf k.val
  | .channelPeriod n ref latest age =>
    [byteOf n, boolByte ref] ++ periodBytes latest ++ maybeBytes 2 age
  | .channelLowWidth level low high c => [boolByte level] ++ bytesOf 2 low ++ bytesOf 2 high ++ [byteOf c.code]
  | .channelCount bin closed bins => bytesOf 2 bin ++ [byteOf closed] ++ bins.flatMap (bytesOf 2)
  | .station air surf rh wind => analogBytes air ++ analogBytes surf ++ analogBytes rh ++ windBytes wind

/-- A quantity's value and quality. -/
def quantityBytes (q : Quantity) : List Byte := signedBytes 2 q.value ++ [byteOf q.quality.code]

/-- GET_GATE (R49): the record without its index, then the fields in the order of the rule; the four input levels are low 0
and high 1 (DESIGN CHOICE, log 22). -/
def gateViewBytes (v : GateView) : List Byte :=
  (gateBytes 0 v.cfg).drop 1 ++ [byteOf v.state.code, byteOf (targetCode v.target), byteOf (faultCode v.fault)] ++
    [boolByte v.upLimit, boolByte v.downLimit, boolByte v.presence, boolByte v.trip, byteOf v.retryCount, boolByte v.permit,
      byteOf v.queuePos, byteOf v.duty] ++
    maybeBytes 1 v.travelLeft ++ maybeBytes 2 v.pauseLeft ++ maybeBytes 2 v.holdOffLeft ++ maybeBytes 2 v.retryLeft ++
    maybeBytes 2 v.displaceLeft

/-- GET_TRIGGER (R99): the record without its index, then the fields in the order of the rule. -/
def triggerViewBytes (v : TriggerView) : List Byte :=
  (triggerBytes 0 v.cfg).drop 1 ++ [byteOf v.state.code, byteOf v.count] ++
    (match v.latest with
      | some q => quantityBytes q
      | none => maybeBytes 2 none ++ maybeBytes 1 none) ++
    [boolByte v.stands] ++ bytesOf 2 v.holdSegments.toNat ++ bytesOf 2 v.claimSigns.toNat

/-- GET_SCHEDULE (R127): the record without its index, then the fields in the order of the rule. -/
def scheduleViewBytes (v : ScheduleView) : List Byte :=
  (scheduleBytes 0 v.cfg).drop 1 ++ [byteOf v.state.code] ++ bytesOf 2 v.holdSegments.toNat ++
    bytesOf 2 v.claimSigns.toNat ++ maybeBytes 4 v.nextChange

/-- GET_SUPPLY (R176): the record, then the fields in the order of the rule. -/
def supplyViewBytes (v : SupplyView) : List Byte :=
  supplyBytes v.cfg ++ quantityBytes v.supply ++
    [byteOf v.samples, byteOf v.stage.code, boolByte v.established, byteOf v.fall, byteOf v.deep, byteOf v.rise,
      byteOf v.permitCount, byteOf v.holders, byteOf v.cap, byteOf v.pollInterval]

/-! ## Templates (R188) -/

/-- An item of a line: a character, or a field kind with its argument. -/
def itemBytes : Item → List Byte
  | .char c => [byteOf c]
  | .field (.air w) => [1, byteOf (w.val + 1)]
  | .field (.surf w) => [2, byteOf (w.val + 1)]
  | .field (.wind w) => [3, byteOf (w.val + 1)]
  | .field (.gust w) => [4, byteOf (w.val + 1)]
  | .field (.close e) => [5, byteOf (e.val + 1)]
  | .field (.open e) => [6, byteOf (e.val + 1)]

/-- A line: its byte count and its bytes. -/
def lineBytes (l : List Item) : List Byte := byteOf (l.flatMap itemBytes).length :: l.flatMap itemBytes

/-- The template body: the slot, then three lines. -/
def templateBytes (n : TemplateNo) (t : Template) : List Byte :=
  byteOf n.val :: (lineBytes t.line1 ++ lineBytes t.line2 ++ lineBytes t.line3)

/-! ## The replies with lists and items that may be none (R183, R25, R145, R163, R116; log 22) -/

/-- Position in the list of R183: LOADING, RUNNING. A part held in reset replies to nothing. -/
def Phase.code : Phase → Nat
  | .held | .loading => 0
  | .running => 1

/-- Position in the table of R179. -/
def LineRate.code : LineRate → Nat
  | .baud9600 => 0 | .baud19200 => 1 | .baud57600 => 2 | .baud115200 => 3

/-- Position in the list of R169. -/
def ImageState.code : ImageState → Nat
  | .valid => 0 | .writing => 1 | .invalid => 2

/-- The store operation in flight, by its position in the list of R183: none, template write with its slot, save.
Only a template write has a slot byte (DESIGN CHOICE, log 22). -/
def storeOpBytes : Option StoreOp → List Byte
  | none => [0]
  | some (.template n) => [1, byteOf (slotNumber n).val]
  | some .config => [2]

/-- GET_IDENTITY (R183). -/
def identityBytes (v : IdentityView) : List Byte :=
  Config.partBytes v.part v.revision ++ [byteOf v.phase.code, byteOf v.cause.code, byteOf v.rate.code, byteOf v.image.code] ++
    storeOpBytes v.storeOp

/-- The members of the sources in one row of the table of The Hold Set: its place there, and each index that is present. -/
def holdRow {n : Nat} (place : Nat) (v : Vector Bool n) : List (List Byte) :=
  ((List.finRange n).filter fun i => v[i]).map fun i => Config.holdBytes place (i.val + 1)

/-- A source without an index, in the table of The Hold Set. -/
def holdOne (place : Nat) (present : Bool) : List (List Byte) := if present then [Config.holdBytes place 0] else []

/-- The members of a hold set, in the order of the table of The Hold Set (DESIGN CHOICE, log 22: R5 gives a set no order). -/
def holdSetBytes (h : HoldSet) : List (List Byte) :=
  holdRow 0 h.triggers ++ holdRow 1 h.paths ++ holdRow 2 h.hazards ++ holdRow 3 h.schedules ++ holdOne 4 h.operator ++
    holdOne 5 h.restart

/-- A pass record: idle, then the two phases in the order Service Passes names them (DESIGN CHOICE, log 22). -/
def Pass.code : Pass → Nat
  | .idle => 0
  | .waiting _ => 1
  | .running _ _ => 2

/-- Phase and remaining seconds of a pass record (R25). -/
def passBytes (v : PassView) : List Byte := [byteOf v.pass.code] ++ bytesOf 2 v.left

/-- GET_SEGMENT (R25): the record without its index, then the fields in the order of the rule; the pass records come in the
order of the guard gates (log 22). -/
def segmentViewBytes (v : SegmentView) : List Byte :=
  (segmentBytes 0 v.cfg).drop 1 ++ [byteOf v.state.code] ++ Config.listBytes (holdSetBytes v.holds) ++
    Config.listBytes (v.guards.map fun g => [byteOf (g.val + 1)]) ++ bytesOf 2 v.noticeLeft ++ bytesOf 2 v.sweepLeft ++
    [boolByte v.unguarded, boolByte v.noticeIncomplete] ++ Config.listBytes (v.passes.map passBytes)

/-- The text attribute by its position in the list of R136: FLASHING, STEADY. On the sign link R189 numbers it otherwise. -/
def attributeByte (flashing : Bool) : Byte := if flashing then 0 else 1

/-- The characters of a text, one byte each. -/
def textBytes (l : List Nat) : List Byte := l.map byteOf

/-- A claim of the claim list: source, class and template (R145). -/
def claimBytes (c : Claim) : List Byte := [byteOf (sourceCode (some c.source)), byteOf c.cls.num, byteOf c.template.val]

/-- The pending page: text, template used, class, cap and attribute (R145). -/
def pendingBytes (p : Page) : List Byte :=
  textBytes p.text ++ [byteOf p.template.val, pageClass p.cls, byteOf p.cap, attributeByte p.flashing]

/-- The sent page: tag, claim, class, text, cap and attribute (R145). -/
def sentBytes (x : SentPage) : List Byte :=
  [x.tag, byteOf (sourceCode x.page.claim), pageClass x.page.cls] ++ textBytes x.page.text ++
    [byteOf x.page.cap, attributeByte x.page.flashing]

/-- The confirmed claim, by its source, and its tag (R145). -/
def confirmedBytes (x : Confirmed) : List Byte := [byteOf (sourceCode x.claim), x.tag]

/-- Position in the list of R147: 0, 1, unknown. -/
def toggleCode : Option Bool → Nat
  | some false => 0
  | some true => 1
  | none => 2

/-- The fields of a STATUS, as its payload lays them out (R189; DESIGN CHOICE, log 22). -/
def statusPayload (x : HeadStatus) : List Byte :=
  [(match x.phase with
    | .ready => 0
    | .starting => 1), x.shownTag, boolByte x.toggle, x.brightness,
    boolByte x.displayFail ||| boolByte x.doorOpen <<< 1 ||| boolByte x.heaterFail <<< 2] ++ bytesOf 2 x.ambient.toNat ++
    [x.latestPacket]

/-- The step of a LOAD, from 0 in the order of R149's table; none for a POLL (DESIGN CHOICE, log 22). -/
def loadStep : Step → Option Nat
  | .poll => none
  | .command => some 0
  | .text1 => some 1
  | .text2 => some 2
  | .confirm => some 3

/-- Whether a transaction is in progress and, for a LOAD, its step (R163). -/
def progressBytes (x : Option Step) : List Byte :=
  boolByte x.isSome :: Config.optionBytes ((x.bind loadStep).map fun n => [byteOf n])

/-- GET_SIGN (R145, R163): the record without its index, then the fields in the order of the two rules. -/
def signViewBytes (v : SignView) : List Byte :=
  (signBytes 0 v.cfg).drop 1 ++ Config.listBytes (v.claims.map claimBytes) ++ [byteOf (sourceCode v.shown)] ++
    Config.optionBytes (v.pending.map pendingBytes) ++ Config.optionBytes (v.sent.map sentBytes) ++
    Config.optionBytes (v.confirmed.map confirmedBytes) ++
    [byteOf v.link.code, byteOf (toggleCode v.toggle), byteOf v.missed, byteOf v.naks, v.nextTag] ++
    Config.optionBytes (v.status.map statusPayload) ++ progressBytes v.inProgress ++ maybeBytes 2 v.dueIn ++
    bytesOf 2 v.sinceLast

/-- Position in a defining list. -/
def DetState.code : DetState → Nat
  | .ready => 0 | .fired => 1 | .spent => 2

/-- Position in a defining list. -/
def Coverage.code : Coverage → Nat
  | .full => 0 | .degraded => 1 | .blind => 2

/-- Position in the table of R112. -/
def Pattern.code : Pattern → Nat
  | .off => 0 | .slow => 1 | .fast => 2

/-- A detector's reading: continuity, or sum and count of bins (R116). The sum of up to 60 bins of two bytes takes four. -/
def readingBytes : DetReading → List Byte
  | .tripline c => [byteOf c.code]
  | .seismic sum bins => bytesOf 4 sum ++ [byteOf bins]

/-- A detector of GET_PATH (R116). -/
def detectorViewBytes (v : DetectorView) : List Byte := [byteOf v.state.code, boolByte v.usable] ++ readingBytes v.reading

/-- The holds a path has in its crossing segment's hold set: PATH, then HAZARD (R116; log 22). -/
def pathHolds (v : PathView) : List (List Byte) :=
  let p := v.path.val + 1
  (if v.holdPath then [Config.holdBytes 1 p] else []) ++ (if v.holdHazard then [Config.holdBytes 2 p] else [])

/-- GET_PATH (R116): the record without its index, then the fields in the order of the rule. -/
def pathViewBytes (v : PathView) : List Byte :=
  (pathBytes 0 v.cfg).drop 1 ++ [byteOf v.detection.code, boolByte v.declared, boolByte v.closeOption] ++
    bytesOf 2 v.confirmLeft ++ [byteOf v.coverage.code] ++ detectorViewBytes v.det1 ++
    Config.optionBytes (v.det2.map detectorViewBytes) ++ Config.listBytes (pathHolds v) ++ bytesOf 2 v.claimSigns.toNat ++
    [byteOf v.pattern.code] ++ Config.slotSetBytes v.wanted.toNat ++ Config.slotSetBytes v.active.toNat ++ [boolByte v.lit]

/-- The bytes of a reply's content: its fields in the order of their rule, each by its kind (R182, R188; log 22). -/
def contentBytes : ReplyBody → List Byte
  | .none => []
  | .identity v => identityBytes v
  | .clockSet v old => bytesOf 4 v.toNat ++ maybeBytes 4 (old.map BitVec.toNat)
  | .clock v z t => bytesOf 4 v.toNat ++ signedBytes 4 z ++ bytesOf 4 t
  | .zoneOnly z => signedBytes 4 z
  | .stored n r => recordBytes n r
  | .storedEntry n c st => scheduleBytes n c ++ [byteOf st.code]
  | .record n r x => recordBytes n r ++ statusBytes x
  | .templateCells n a b c => [byteOf n, byteOf a, byteOf b, byteOf c]
  | .template n k (some (t, a, b, c)) => byteOf k.code :: templateBytes n t ++ [byteOf a, byteOf b, byteOf c]
  | .template n k none => [byteOf k.code, byteOf n.val]
  | .segState s => [byteOf s.code]
  | .gateState s => [byteOf s.code]
  | .detection d => [byteOf d.code]
  | .duration n => bytesOf 2 n
  | .signs set => bytesOf 2 set.toNat
  | .segment v => segmentViewBytes v
  | .gate v => gateViewBytes v
  | .sign v => signViewBytes v
  | .path v => pathViewBytes v
  | .trigger v => triggerViewBytes v
  | .quantities t n => t.toList.flatMap quantityBytes ++ [byteOf n]
  | .schedule v => scheduleViewBytes v
  | .supply v => supplyViewBytes v
  | .reports lost left l => [boolByte lost, byteOf left, byteOf l.length] ++ l.flatMap reportBytes

/-- The frame of a reply (R182). -/
def replyFrame (x : Reply) : List Byte :=
  cabinetFrame (replyKind x.kind) x.tag (x.result.code :: contentBytes x.body)

end Sys2Proof.Machine
end

