-- ==== Sys2Proof/Machine/Flags.lean ====
section
/-! DEFINITION. The output levels of the part, as functions of its state: bridges, beacons, ATTN and the frame on the sign
link (R35, R113, R177, R187). -/

namespace Sys2Proof.Machine

/-- The two sides of a gate's bridge in counts of 250: side A lowers, side B raises; off unless RUNNING (R35, R177). -/
def State.bridge (g : GateId) (s : State) : Nat × Nat :=
  if s.site.running then (s.road.gate g).bridge s.site.now else (0, 0)

/-- A beacon output (R113, R114); off unless RUNNING (R115). -/
def State.beacon (p : PathId) (s : State) : Bool := s.site.running && (s.site.path p).lit

/-- The ATTN output (R187). -/
def State.attn (s : State) : Bool := s.road.attn

/-- The frame of the exchange in progress on the sign link; none while the link is idle (R146, R162). -/
def State.linkBytes (s : State) : Option (List Byte) := if s.site.running then s.road.frameSent else none

/-- The replies on their way to the cabinet computer, oldest first (R181, R182). -/
def State.replyBytes (s : State) : List (List Byte) := s.site.tx.map replyFrame

/-- The part is held in reset or LOADING: nothing is driven (R177, R178). -/
def State.quietOutputs (s : State) : Bool :=
  !s.attn && (List.finRange 8).all (fun g => s.bridge g == (0, 0)) && (List.finRange 8).all (fun p => !s.beacon p) &&
  s.linkBytes.isNone

end Sys2Proof.Machine
end

