-- ==== Sys2Proof/WellFormed.lean ====
section
/-! DEFINITION. Which commands can occur: every field fits the bytes that carry it (R188), an analog code fits the converter
(R69), and an event's data are those its row names. -/

namespace Sys2Proof

/-- A number of n bytes. -/
def fitsBytes (n v : Nat) : Bool := decide (v < 256 ^ n)

/-- A signed number of n bytes. -/
def fitsSigned (n : Nat) (v : Int) : Bool := decide (-(2 ^ (8 * n - 1)) ≤ v) && decide (v < 2 ^ (8 * n - 1))

/-- A body of no fields is well formed. -/
def Body.all {α : Type} (p : α → Bool) : Body α → Bool
  | .misfit => true
  | .fits a => p a

/-- A calibration pair on the line. -/
def Calibration.fits (c : Calibration) : Bool := fitsSigned 2 c.lo && fitsSigned 2 c.hi

/-- An index byte that may be none: 255 is none (log 21). -/
def MaybeIndex.fits : MaybeIndex → Bool
  | .absent => true
  | .num n => decide (n < 255)

def SegmentReq.fits (q : SegmentReq) : Bool :=
  fitsBytes 1 q.index && fitsBytes 1 q.closureTemplate && fitsBytes 2 q.noticeLimit && fitsBytes 2 q.sweepTime

def GateReq.fits (q : GateReq) : Bool :=
  fitsBytes 1 q.index && fitsBytes 1 q.boundary && fitsBytes 1 q.guarded && fitsBytes 1 q.travelLimit &&
  fitsBytes 1 q.startDuty && fitsBytes 1 q.runDuty && fitsBytes 2 q.reversalPause && fitsBytes 1 q.retries

def SignReq.fits (q : SignReq) : Bool :=
  fitsBytes 1 q.index && fitsBytes 1 q.maxBrightness && fitsBytes 1 q.standing

def TimebaseReq.fits (q : TimebaseReq) : Bool := fitsBytes 1 q.index

def ChannelReq.fits (q : ChannelReq) : Bool := fitsBytes 1 q.index && fitsBytes 1 q.timebase

def StationReq.fits (q : StationReq) : Bool :=
  fitsBytes 1 q.index && q.airInput.fits && q.airCal.fits && q.surfInput.fits && q.surfCal.fits && q.rhInput.fits &&
  q.rhCal.fits && q.wind.fits && fitsBytes 2 q.k

def TriggerReq.fits (q : TriggerReq) : Bool :=
  fitsBytes 1 q.index && fitsSigned 2 q.setLevel && fitsSigned 2 q.clearLevel && fitsBytes 1 q.setCount &&
  fitsBytes 1 q.clearCount && fitsBytes 1 q.template

def DetectorReq.fits (q : DetectorReq) : Bool :=
  q.chan.fits && fitsBytes 2 q.debounce && fitsBytes 1 q.threshold && fitsBytes 1 q.window

def PathReq.fits (q : PathReq) : Bool :=
  fitsBytes 1 q.index && q.det1.fits && q.det2.fits && fitsBytes 2 q.confirmWindow && fitsBytes 1 q.crossing &&
  fitsBytes 1 q.avalancheTemplate && fitsBytes 1 q.hazardTemplate

def ScheduleReq.fits (q : ScheduleReq) : Bool :=
  fitsBytes 1 q.index && fitsBytes 4 q.closeTime && fitsBytes 4 q.openTime && fitsBytes 4 q.lead &&
  fitsBytes 1 q.template

def SupplyCfg.fits (q : SupplyCfg) : Bool :=
  fitsSigned 2 q.ecoEnter && fitsSigned 2 q.ecoLeave && fitsSigned 2 q.resEnter && fitsSigned 2 q.resLeave && q.cal.fits

def RecordReq.fits (q : RecordReq) : Bool := fitsBytes 1 q.kind && fitsBytes 1 q.index

/-- A template item: a character code 32 to 126, or a field kind 1 to 6 with an argument byte, or neither (R188). -/
def RawItem.fits : RawItem → Bool
  | .char c => decide (32 ≤ c) && decide (c ≤ 126)
  | .field k a => decide (1 ≤ k) && decide (k ≤ 6) && fitsBytes 1 a
  | .bad => true

/-- Bytes of a template item. -/
def RawItem.size : RawItem → Nat
  | .field _ _ => 2
  | .char _ | .bad => 1

/-- Three lines whose bytes fit a body (R188). -/
def TemplateReq.fits (q : TemplateReq) : Bool :=
  fitsBytes 1 q.slot && decide (q.lines.length = 3) && q.lines.all (fun l => l.all RawItem.fits) &&
  decide (((q.lines.map fun l => 1 + (l.map RawItem.size).sum).sum) < 248)

def PassReq.fits (q : PassReq) : Bool := fitsBytes 1 q.gate && fitsBytes 2 q.duration

def HazardReq.fits (q : HazardReq) : Bool := fitsBytes 1 q.path

def NoticeReq.fits (q : NoticeReq) : Bool := fitsBytes 1 q.slot && fitsBytes 1 q.template

/-- The kind codes of the catalogue (R188). -/
def catalogue : List Nat :=
  [0x01, 0x02, 0x03, 0x10, 0x11, 0x12, 0x13, 0x14, 0x15, 0x16, 0x17, 0x18, 0x19, 0x1A, 0x1B, 0x1C, 0x1D, 0x20, 0x21] ++
  [0x30, 0x31, 0x32, 0x33, 0x34, 0x35, 0x36, 0x37, 0x38, 0x39, 0x40, 0x41, 0x42, 0x43, 0x44, 0x45, 0x46, 0x47, 0x48]

/-- A command that can occur. -/
def Instr.wellFormed : Instr → Bool
  | .getIdentity _ _ | .setClock _ _ | .getClock _ _ | .setAttention _ _ | .saveConfig _ _ | .restart _ _
  | .getQuantities _ _ | .getSupply _ _ | .fetchReports _ _ => true
  | .putSegment _ b => b.all SegmentReq.fits
  | .putGate _ b => b.all GateReq.fits
  | .putSign _ b => b.all SignReq.fits
  | .putTimebase _ b => b.all TimebaseReq.fits
  | .putChannel _ b => b.all ChannelReq.fits
  | .putStation _ b => b.all StationReq.fits
  | .putTrigger _ b => b.all TriggerReq.fits
  | .putPath _ b => b.all PathReq.fits
  | .putSchedule _ b => b.all ScheduleReq.fits
  | .putSupply _ b => b.all SupplyCfg.fits
  | .setZone _ b => b.all (fitsSigned 4)
  | .getRecord _ b => b.all RecordReq.fits
  | .putTemplate _ b => b.all TemplateReq.fits
  | .getTemplate _ b | .closeSegment _ b | .releaseSegment _ b | .reopenSegment _ b | .resetGateFault _ b
  | .clearPath _ b | .withdrawNotice _ b | .getSegment _ b | .getGate _ b | .getSign _ b | .getPath _ b
  | .getTrigger _ b | .getSchedule _ b => b.all (fitsBytes 1)
  | .servicePass _ b => b.all PassReq.fits
  | .declareHazard _ b => b.all HazardReq.fits
  | .postNotice _ b => b.all NoticeReq.fits
  | .unknownKind k _ => !catalogue.contains k.toNat
  | .huntByteDiscarded b => b != 0xA5#8
  | .analogConversionComplete _ code => decide (code < 4096)
  | .cabinetFrameDiscarded _ | .interByteGapTimeout _ | .replySent | .powerOn _ _ | .brownOut | .resetLineLow
  | .resetLineHigh _ _ | .loadingEnd | .limitSwitchChange _ _ _ | .presenceChange _ _ | .driverTrip _ _
  | .travelTimeout _ | .pauseExpiry _ | .holdOffExpiry _ | .retryDelayExpiry _ | .displacementExpiry _ | .rampStep _
  | .noticeTimerExpiry _ | .sweepTimerExpiry _ | .passTimerExpiry _ | .timebaseWrap _ | .flashSlotAdvance
  | .captureEdge _ _ | .lowWidthDebounceReached _ | .highTimeReached _ | .binClose _ | .confirmTimerExpiry _
  | .sampleCompletion | .secondEvent | .rerenderCheck | .templateWriteComplete _ | .configSaveComplete _ | .pollDue _
  | .statusReceived _ | .ackReceived | .nakReceived | .stallReceived | .badAnswerReceived _ | .answerWindowExpiry _
  | .nakWaitExpiry | .linkByteOutsideWindow _ => true

end Sys2Proof
end

