-- ==== Sys2Proof/Safety.lean ====
section
/-! DEFINITION. What claims about the controller are stated in: when a request is taken, what a reply adds, the bounds its
lists keep, and which commands are frames, resets and configuration writes. -/

namespace Sys2Proof.Machine

/-! ## The cabinet port -/

/-- The part is RUNNING, no request is pending, and the transmit list has room: the next frame is taken and its kind is not
refused for LOADING (R181). -/
def Ready (s : State) : Prop := s.site.phase = .running ∧ s.site.requestPending = false ∧ s.site.tx.length < 4

/-- The state with the reply to a request that has been taken, and nothing else changed (R180, R181). -/
def State.replied (kind tag : Byte) (code : ResultCode) (body : ReplyBody) (s : State) : State :=
  { s with site := { s.site with
      rx := .hunt, requestPending := true
      tx := s.site.tx ++ [{ kind := kind, tag := tag, result := code, body := body }] } }

/-- After a command, only the port part of Site differs from what is given. -/
def PortOnly (e t : Site) : Prop := t = { e with rx := t.rx, requestPending := t.requestPending, tx := t.tx }

/-- The last reply of the transmit list answers a frame OK with a content. -/
def AnsweredOk (kind tag : Byte) (body : ReplyBody) (before after : Site) : Prop :=
  after.tx = before.tx ++ [{ kind := kind, tag := tag, result := .ok, body := body }] ∧ after.requestPending = true ∧
    after.rx = .hunt

/-- Kind code and tag of the frame a request row is (R188). -/
def frameOf : Instr → Option (Byte × Byte)
  | .getIdentity g _ => some (0x01, g)
  | .setClock g _ => some (0x02, g)
  | .getClock g _ => some (0x03, g)
  | .putSegment g _ => some (0x10, g)
  | .putGate g _ => some (0x11, g)
  | .putSign g _ => some (0x12, g)
  | .putTimebase g _ => some (0x13, g)
  | .putChannel g _ => some (0x14, g)
  | .putStation g _ => some (0x15, g)
  | .putTrigger g _ => some (0x16, g)
  | .putPath g _ => some (0x17, g)
  | .putSchedule g _ => some (0x18, g)
  | .putSupply g _ => some (0x19, g)
  | .setZone g _ => some (0x1A, g)
  | .setAttention g _ => some (0x1B, g)
  | .getRecord g _ => some (0x1C, g)
  | .saveConfig g _ => some (0x1D, g)
  | .putTemplate g _ => some (0x20, g)
  | .getTemplate g _ => some (0x21, g)
  | .closeSegment g _ => some (0x30, g)
  | .releaseSegment g _ => some (0x31, g)
  | .reopenSegment g _ => some (0x32, g)
  | .servicePass g _ => some (0x33, g)
  | .resetGateFault g _ => some (0x34, g)
  | .declareHazard g _ => some (0x35, g)
  | .clearPath g _ => some (0x36, g)
  | .postNotice g _ => some (0x37, g)
  | .withdrawNotice g _ => some (0x38, g)
  | .restart g _ => some (0x39, g)
  | .getSegment g _ => some (0x40, g)
  | .getGate g _ => some (0x41, g)
  | .getSign g _ => some (0x42, g)
  | .getPath g _ => some (0x43, g)
  | .getTrigger g _ => some (0x44, g)
  | .getQuantities g _ => some (0x45, g)
  | .getSchedule g _ => some (0x46, g)
  | .getSupply g _ => some (0x47, g)
  | .fetchReports g _ => some (0x48, g)
  | .unknownKind k g => some (k, g)
  | _ => none

/-- The body of a request row does not fit its fields (R181). -/
def misfits : Instr → Bool
  | .getIdentity _ b | .getClock _ b | .saveConfig _ b | .restart _ b | .getQuantities _ b | .getSupply _ b
  | .fetchReports _ b => b == .misfit
  | .setClock _ b => b == .misfit
  | .putSegment _ b => b == .misfit
  | .putGate _ b => b == .misfit
  | .putSign _ b => b == .misfit
  | .putTimebase _ b => b == .misfit
  | .putChannel _ b => b == .misfit
  | .putStation _ b => b == .misfit
  | .putTrigger _ b => b == .misfit
  | .putPath _ b => b == .misfit
  | .putSchedule _ b => b == .misfit
  | .putSupply _ b => b == .misfit
  | .setZone _ b => b == .misfit
  | .setAttention _ b => b == .misfit
  | .getRecord _ b => b == .misfit
  | .putTemplate _ b => b == .misfit
  | .getTemplate _ b | .closeSegment _ b | .releaseSegment _ b | .reopenSegment _ b | .resetGateFault _ b
  | .clearPath _ b | .withdrawNotice _ b | .getSegment _ b | .getGate _ b | .getSign _ b | .getPath _ b
  | .getTrigger _ b | .getSchedule _ b => b == .misfit
  | .servicePass _ b => b == .misfit
  | .declareHazard _ b => b == .misfit
  | .postNotice _ b => b == .misfit
  | _ => false

/-- The rows that can end in a reset or in LOADING (R177). -/
def isReset : Instr → Bool
  | .powerOn _ _ | .brownOut | .resetLineLow | .resetLineHigh _ _ | .replySent => true
  | _ => false

/-- The configuration writes (R168). -/
def isConfigWrite : Instr → Bool
  | .putSegment _ _ | .putGate _ _ | .putSign _ _ | .putTimebase _ _ | .putChannel _ _ | .putStation _ _
  | .putTrigger _ _ | .putPath _ _ | .putSchedule _ _ | .putSupply _ _ | .setZone _ _ | .setAttention _ _ => true
  | _ => false

/-- The rows that a gate's input pins come from. -/
def isGateInput : Instr → Bool
  | .limitSwitchChange _ _ _ | .presenceChange _ _ | .driverTrip _ _ => true
  | _ => false

/-- The requests that only read: they change nothing but the port. GET_TEMPLATE is not one, since it may spoil a slot. -/
def isPureRead : Instr → Bool
  | .getIdentity _ _ | .getClock _ _ | .getRecord _ _ | .getSegment _ _ | .getGate _ _ | .getSign _ _ | .getPath _ _
  | .getTrigger _ _ | .getQuantities _ _ | .getSchedule _ _ | .getSupply _ _ => true
  | _ => false

/-- A number from 1 lies outside a range 1 to k. -/
def outside1 (k n : Nat) : Bool := decide (n < 1) || decide (k < n)

/-- The index of a request lies outside its range (R3, R16, R19 to R21, R25, R28, R47, R49, R51, R56, R67, R88, R99, R101,
R108, R109, R116, R122, R127, R129, R135, R145, R165, R167, R184). GET_RECORD's is judged for a kind of the table only. -/
def badIndex : Instr → Bool
  | .putSegment _ (.fits q) => outside1 6 q.index
  | .putGate _ (.fits q) => outside1 8 q.index
  | .putSign _ (.fits q) => outside1 16 q.index
  | .putTimebase _ (.fits q) => decide (3 < q.index)
  | .putChannel _ (.fits q) => decide (11 < q.index)
  | .putStation _ (.fits q) => outside1 3 q.index
  | .putTrigger _ (.fits q) => outside1 24 q.index
  | .putPath _ (.fits q) => outside1 8 q.index
  | .putSchedule _ (.fits q) => outside1 16 q.index
  | .putTemplate _ (.fits q) => outside1 96 q.slot
  | .getTemplate _ (.fits n) => decide (96 < n)
  | .closeSegment _ (.fits n) | .releaseSegment _ (.fits n) | .reopenSegment _ (.fits n) | .getSegment _ (.fits n) =>
    outside1 6 n
  | .servicePass _ (.fits q) => outside1 8 q.gate
  | .declareHazard _ (.fits q) => outside1 8 q.path
  | .resetGateFault _ (.fits n) | .clearPath _ (.fits n) | .getGate _ (.fits n) | .getPath _ (.fits n) => outside1 8 n
  | .postNotice _ (.fits q) => outside1 4 q.slot
  | .withdrawNotice _ (.fits n) => outside1 4 n
  | .getSign _ (.fits n) | .getSchedule _ (.fits n) => outside1 16 n
  | .getTrigger _ (.fits n) => outside1 24 n
  | .getRecord _ (.fits q) =>
    (decide (q.kind = 0) && outside1 6 q.index) || ((decide (q.kind = 1) || decide (q.kind = 7)) && outside1 8 q.index) ||
    ((decide (q.kind = 2) || decide (q.kind = 8)) && outside1 16 q.index) || (decide (q.kind = 3) && decide (3 < q.index)) ||
    (decide (q.kind = 4) && decide (11 < q.index)) || (decide (q.kind = 5) && outside1 3 q.index) ||
    (decide (q.kind = 6) && outside1 24 q.index) ||
    ((decide (q.kind = 9) || decide (q.kind = 10) || decide (q.kind = 11)) && decide (0 < q.index))
  | _ => false

/-- The rows that the BUSY refusal of a store operation in flight holds back (R168). -/
def storeKept : Instr → Bool
  | .putTemplate _ _ | .saveConfig _ _ => true
  | c => isConfigWrite c

/-! ## Bytes -/

/-- A record that a write request whose fields fit their bytes has made, printed with its index as GET_RECORD carries it, is a body that this request reads
as the same index and, by the same checks and clamping, the same record (R184, R188). -/
def ReadsBack {α β : Type} (fits : α → Bool) (make : α → Option β) (index : α → Nat) (read : List Byte → Body α)
    (print : Nat → β → List Byte) : Prop :=
  ∀ n q c, n < 256 → fits q = true → make q = some c → ∃ x, read (print n c) = .fits x ∧ index x = n ∧ make x = some c

/-! ## Configuration writes -/

/-- A state in which a configuration write that passes its own checks is accepted (R168, R181). -/
def Writable (s : State) : Prop := Ready s ∧ s.site.storeOp = none

/-- How a record names an object, or none, on the line. -/
def asIndex {k : Nat} : Option (Fin k) → MaybeIndex
  | none => .absent
  | some i => .num i.val

/-- An entry's holds are in line with its state: SCHEDULE(n) stands on the enabled segments of its set while it is CLOSING
(R124). -/
def EntryInLine (e : Site) (n : EntryId) : Prop :=
  ∀ i, (e.segCfg i).enabled = true →
    (e.hold i).has (.schedule n) = (decide (e.entry n = .closing) && hasSeg (e.entryCfg n).segments i)

/-! ## Resets -/

/-- The part held in reset: every field at its value after a reset but those that outlive one, which are the reference, the
supply and RESET pins, the straps, the start cause, the clock, the image, the slots and the input pins (R48, R64, R84,
R98, R115, R117, R126, R144, R162, R164, R170, R177, R181, R185; log 30). -/
def heldState (s : State) : State :=
  { site := { now := s.site.now, phase := .held, powerGood := s.site.powerGood, resetLow := s.site.resetLow
              strap1 := s.site.strap1, strap2 := s.site.strap2, lineRate := s.site.lineRate
              startCause := s.site.startCause, powerSinceRun := s.site.powerSinceRun, clock := s.site.clock
              secondEnd := s.site.secondEnd, image := s.site.image
              channels := s.site.channels.map fun x => { pin := x.pin } }
    road := { slots := s.road.slots
              gates := s.road.gates.map fun x =>
                { upLimit := x.upLimit, downLimit := x.downLimit, presence := x.presence, trip := x.trip } }
    pending := s.pending }

/-- The image is used at LOADING (R178). -/
def imageGood (s : State) : Bool := decide (s.site.image.state = .valid) && s.site.image.intact

/-- The start of LOADING after a reset of a kind: what being held leaves, the straps read, the start cause, the working
configuration, and the START report with, where the image is not used, the STORE_FAULT report (R177 to R179). -/
def loadingState (kind : StartCause) (s : State) : State :=
  let h := heldState s
  let cause : StartCause := if s.site.powerSinceRun then .power else kind
  let start : Report := { kind := .start, subject := 0, value := .startCause cause, stamp := s.site.clock }
  let fault : Report := { kind := .storeFault, subject := 0, value := .config, stamp := s.site.clock }
  { site := { h.site with
      phase := .loading, startCause := cause
      lineRate :=
        match s.site.strap1, s.site.strap2 with
        | false, false => .baud9600
        | true, false => .baud19200
        | false, true => .baud57600
        | true, true => .baud115200
      cfg := if imageGood s then s.site.image.records else WorkingConfig.allDisabled }
    road := { h.road with reports := if imageGood s then [start] else [start, fault] }
    pending := s.pending }

/-! ## Gates and segments -/

/-- No enabled segment is in NOTICE: a change of a sign's link state or confirmed claim moves no segment (R9). -/
def NoNotice (e : Site) (r : Road) : Prop := ∀ n, (e.segCfg n).enabled = true → (r.segment n).state ≠ .notice

/-- No gate other than g is queued. -/
def OnlyQueued (r : Road) (g : GateId) : Prop := ∀ x ∈ r.queue, x = g

/-- The holders of permits have reached the permit count of the stage, so the arbiter makes no grant (R32). -/
def NoGrant (e : Site) (r : Road) : Prop := e.stage.permits ≤ r.holders

/-- A gate that has just been granted a permit and started its motion: moving, the permit held, the start duty written to the
buffer with the bridge off before it, the travel timer full, a fresh ramp, and every other timer stopped (R34 to R36, R38). -/
def motionStarted (e : Site) (g : GateId) (d : Dir) (y : Gate) : Gate :=
  let c := e.gateCfg g
  { y with
    state := if d = .down then .lowering else .raising
    permit := true, duty := c.startDuty, driven := 0, dutyAt := e.now, travelTimer := some (e.now + c.travelLimit * 1000000)
    pauseTimer := none, holdOffTimer := none, retryTimer := none, displaceTimer := none
    rampTimer := if c.startDuty = c.runDuty then none else some (e.now + 100000) }

/-- A fault of the gate changes nothing but the gate: no pass is active and its segment is OPEN or NOTICE (R14, R22). -/
def FaultUnheard (e : Site) (r : Road) (g : GateId) : Prop :=
  r.pass g = .idle ∧ ((r.segment (e.gateCfg g).guarded).state = .open ∨ (r.segment (e.gateCfg g).guarded).state = .notice)

/-- The link is idle and stays idle: no page is pending and no POLL is due on any head (R160). -/
def LinkQuiet (r : Road) : Prop := (∀ h, (r.sign h).pending = none) ∧ ∀ h, (r.head h).due = none

/-- The channel serves no enabled path as a detector. -/
def Unwatched (e : Site) (c : ChanId) : Prop :=
  ∀ p, (e.pathCfg p).enabled = true → (e.pathCfg p).det1.chan ≠ c ∧ ∀ d, (e.pathCfg p).det2 = some d → d.chan ≠ c

/-- The channel serves one enabled path by one detector, and serves no other. -/
def WatchedBy (e : Site) (c : ChanId) (p : PathId) (d : DetNo) (x : Detector) : Prop :=
  (e.pathCfg p).enabled = true ∧ detOf (e.pathCfg p) d = some x ∧ x.chan = c ∧
    ∀ q f y, (e.pathCfg q).enabled = true → detOf (e.pathCfg q) f = some y → y.chan = c → q = p ∧ f = d

/-- A path enters SUSPECT or RELEASED from a site and a road: its timer, its beacon's wanted mask, PATH(p) on its enabled
crossing segment when RELEASED, and its report; and, with no gate queued and no segment in NOTICE, its claim on each approach
sign where it wants another than before, after the closure claim of an OPEN crossing segment that the hold closes, with no
other claim changed (R105, R106, R110 to R113). -/
def PathEnters (next : Detection) (p : PathId) (n : ChanId) (e : Site) (r : Road) (u : State) : Prop :=
  let c := e.pathCfg p
  let y := e.path p
  let w := e.segCfg c.crossing
  let mask : BitVec 8 := if c.beaconEnabled then beaconMask .fast c.beaconPhase e.stage else 0
  let raised := decide (next = .released) && w.enabled && !(e.hold c.crossing).has (.path p)
  let mine : Claim :=
    if next = .released then { source := .path p, cls := .avalanche, template := c.avalancheTemplate }
    else { source := .path p, cls := .hazard, template := c.hazardTemplate }
  u.site = { e with
    paths := e.paths.set p { y with
      detection := next, confirmTimer := if next = .suspect then some (e.now + c.confirmWindow * 1000000) else none
      wanted := mask, lit := if (e.tbCfg 3).mode = .free then mask != 0 else y.lit }
    holds := u.site.holds } ∧
  (∀ i h, (u.site.hold i).has h = ((e.hold i).has h || (raised && decide (h = .path p) && decide (i = c.crossing)))) ∧
  (u.road.lost = true ∨ { kind := if next = .suspect then .pathSuspect else .pathReleased, subject := p.val + 1
                          value := .chan n, stamp := e.clock } ∈ u.road.reports) ∧
  (r.queue = [] → NoNotice e r → ∀ h : SignId,
    let closed := if raised = true ∧ (r.segment c.crossing).state = .open ∧ w.noticeSet.getLsbD h = true then
        (postedList { source := .segment c.crossing, cls := .closure, template := w.closureTemplate } (r.sign h).claims).1
      else (r.sign h).claims
    (u.road.sign h).claims =
      if c.signs.getLsbD h = true ∧ ¬(next = .suspect ∧ y.declared = true) then (postedList mine closed).1 else closed)

/-- Detector d of path p has fired: a QUIET path with mode ANY or DEGRADED coverage is RELEASED, a QUIET one in mode BOTH is
SUSPECT, a SUSPECT one is RELEASED, and on a RELEASED one only the detector changes (R105 to R107). -/
def PathFires (p : PathId) (d : DetNo) (n : ChanId) (e : Site) (s u : State) : Prop :=
  let c := e.pathCfg p
  let y := e.path p
  let fired : Site := { e with paths := e.paths.set p (y.setDet d { y.det d with state := .fired }) }
  u.pending = s.pending ∧
    match y.detection with
    | .quiet =>
      PathEnters (if c.mode = .any ∨ y.coverage = .degraded then .released else .suspect) p n fired s.road u
    | .suspect => PathEnters .released p n fired s.road u
    | .released => u = { s with site := fired }

/-- A trip-line has become SPENT or READY with a report: the coverage follows, with its report where it changes; DEGRADED
coverage releases a SUSPECT path for the channel of the detector that has fired (R102, R104, R106). -/
def TriplineTurns (k : ReportKind) (st : DetState) (p : PathId) (d : DetNo) (n : ChanId) (e : Site) (s u : State) : Prop :=
  let y := e.path p
  let z := y.setDet d { y.det d with state := st }
  let new := ({ e with paths := e.paths.set p z } : Site).coverageOf p
  let e' : Site := { e with paths := e.paths.set p { z with coverage := new } }
  let told := s.road.report e k (p.val + 1) (.chan n)
  let kind : ReportKind := match new with
    | .full => .pathCoverageRestored
    | .degraded => .pathDegraded
    | .blind => .pathBlind
  let r := if new = y.coverage then told else told.report e kind (p.val + 1) (.chan n)
  u.pending = s.pending ∧
    if y.detection = .suspect ∧ new = .degraded ∧ new ≠ y.coverage then
      PathEnters .released p (detChan (e.pathCfg p) (if z.det1.state = .fired then .first else .second)) e' r u
    else u.site = e' ∧ u.road = r

/-! ## What the lists keep -/

/-- A claim list as R131 has it: at most 8 claims, one from any source, in class order. -/
def ClaimsOk (l : List Claim) : Prop :=
  l.length ≤ 8 ∧ (l.map (·.source)).Nodup ∧ l.Pairwise fun a b => a.cls.num ≤ b.cls.num

/-- The bounds of the road: reports, claim lists, permit queue and page tags (R31, R131, R147, R185). -/
structure RoadOk (r : Road) : Prop where
  reports : r.reports.length ≤ 48
  claims : ∀ h, ClaimsOk (r.sign h).claims
  queue : r.queue.Nodup
  tags : ∀ h, (r.head h).nextTag ≠ 0#8

/-- The bounds of the controller: those of the road, and four replies at most (R181). -/
structure Bounded (s : State) : Prop where
  road : RoadOk s.road
  replies : s.site.tx.length ≤ 4

/-! ## What every step keeps -/

/-- ATTN is asserted exactly while the part is RUNNING and a report at or above the attention level is queued (R187). -/
def AttnOk (s : State) : Prop :=
  s.road.attn = true ↔ s.site.phase = .running ∧ ∃ x ∈ s.road.reports, s.site.cfg.attention.rank ≤ x.rank

/-- At most 3 gates hold drive permits (R32). -/
def PermitsOk (s : State) : Prop := s.road.holders ≤ 3

/-- An enabled path's crossing segment is enabled (R3, R101). -/
def CrossingsOk (c : WorkingConfig) : Prop :=
  ∀ p : PathId, (c.paths[p]).enabled = true → (c.segments[(c.paths[p]).crossing]).enabled = true

/-- Segments, holds and paths as the manual relates them (R1, R12, R17, R107, R110): in the working configuration and in the
image an enabled path crosses an enabled segment; a segment that is not enabled is OPEN without holds; a segment in OPEN
or REOPENING has no hold; one with an avalanche hold is in CLEARING or CLOSED; a path that is RELEASED is enabled and
holds its segment by PATH(p), and no other path holds one; outside RUNNING no path is but QUIET and undeclared, no segment has
a hold, and all are OPEN. -/
structure ClosuresOk (s : State) : Prop where
  crossings : CrossingsOk s.site.cfg
  stored : CrossingsOk s.site.image.records
  unused : ∀ n, (s.site.segCfg n).enabled = false → (s.road.segment n).state = .open ∧ s.site.hold n = {}
  openFree : ∀ n, (s.road.segment n).state = .open ∨ (s.road.segment n).state = .reopening → s.site.hold n = {}
  avalanche : ∀ n p, (s.site.hold n).has (.path p) = true →
    (s.road.segment n).state = .clearing ∨ (s.road.segment n).state = .closed
  released : ∀ p, (s.site.path p).detection = .released →
    (s.site.pathCfg p).enabled = true ∧ (s.site.hold (s.site.pathCfg p).crossing).has (.path p) = true
  owned : ∀ n p, (s.site.hold n).has (.path p) = true →
    (s.site.path p).detection = .released ∧ (s.site.pathCfg p).crossing = n
  quiet : ∀ p, (s.site.pathCfg p).enabled = false →
    (s.site.path p).detection = .quiet ∧ (s.site.path p).declared = false
  asleep : s.site.phase ≠ .running →
    (∀ p, (s.site.path p).detection = .quiet ∧ (s.site.path p).declared = false) ∧
      ∀ n, (s.road.segment n).state = .open ∧ s.site.hold n = {}

/-- Schedule entries, the clock and SCHEDULE holds as the manual relates them (R121, R123, R124): while RUNNING every entry is in the
state its record, the clock and the offset give; otherwise every entry is IDLE; a SCHEDULE(e) hold stands only on a
segment of the set of an entry in CLOSING. -/
structure SchedulesOk (s : State) : Prop where
  states : s.site.phase = .running → ∀ n, s.site.entry n = entryState s.site (s.site.entryCfg n)
  asleep : s.site.phase ≠ .running → ∀ n, s.site.entry n = .idle
  holds : ∀ n x, (s.site.hold n).has (.schedule x) = true →
    s.site.entry x = .closing ∧ hasSeg (s.site.entryCfg x).segments n = true

end Sys2Proof.Machine
end

