-- ==== Sys2Proof/Certificates/Slice0/Obligations.lean ====
section
/-! DEFINITION. The statements about the controller that are given to the provers. -/

open Sys2Proof Sys2Proof.Machine

/-! ## The queue of commands and the cabinet port -/

/-- A step runs the command at the front of the queue on the state with the rest of the queue (log 4). -/
def Obligations.StepTakesFrontCommand : Prop :=
  ∀ (s : State) (c : Instr) (rest : List Instr), s.pending = c :: rest → step s = exec c { s with pending := rest }

/-- The model's choice (log 2), no rule of the manual: with no command waiting, one microsecond passes and the rows that have
come due join the queue. -/
def Obligations.EmptyQueueLetsTimePass : Prop :=
  ∀ s : State, s.pending = [] →
    step s = .next { s with site := { s.site with now := s.site.now + 1 }
                            pending := dueRows { s with site := { s.site with now := s.site.now + 1 } } }

/-- Every command completes in every state; none touches the queue or turns the reference back. -/
def Obligations.EveryCommandCompletes : Prop :=
  ∀ (c : Instr) (s : State), ∃ t, exec c s = .next t ∧ t.pending = s.pending ∧ s.site.now ≤ t.site.now

/-- What becomes of a complete frame before its request's own checks: not received while held; discarded with four replies
waiting; answered BUSY under its own kind and tag with a request pending; in LOADING, unless GET_IDENTITY, refused with BUSY; of
no kind of the catalogue, refused with UNKNOWN_KIND; with a body that does not fit its fields, refused with BAD_LENGTH. A
refusal changes nothing. That the reply being sent counts among the four is the model's choice (log 45). -/
def Obligations.FramesTurnedAway : Prop :=
  (∀ (c : Instr) (k g : Byte) (s : State), frameOf c = some (k, g) →
    (s.site.phase = .held → exec c s = .next s) ∧
    (s.site.phase ≠ .held → 4 ≤ s.site.tx.length →
      exec c s = .next { s with site := { s.site with rx := .hunt } }) ∧
    (s.site.phase ≠ .held → s.site.tx.length < 4 → s.site.requestPending = true →
      exec c s = .next { s with site := { s.site with
        rx := .hunt, tx := s.site.tx ++ [{ kind := k, tag := g, result := .busy, answers := false }] } }) ∧
    ((∀ b, c ≠ .getIdentity g b) → s.site.phase = .loading → s.site.requestPending = false → s.site.tx.length < 4 →
      exec c s = .next (s.replied k g .busy .none)) ∧
    (Ready s → misfits c = true → exec c s = .next (s.replied k g .badLength .none))) ∧
  ∀ (k g : Byte) (s : State), Ready s → exec (.unknownKind k g) s = .next (s.replied k g .unknownKind .none)

/-- A taken request with an index outside its range is refused with BAD_INDEX and changes nothing, whatever else it carries
and whether or not a store operation is in flight. -/
def Obligations.BadIndexIsRefused : Prop :=
  ∀ (c : Instr) (k g : Byte) (s : State), Ready s → frameOf c = some (k, g) → badIndex c = true →
    exec c s = .next (s.replied k g .badIndex .none)

/-- While a store operation is in flight a configuration write or store request whose index is in range is refused with BUSY
and changes nothing. -/
def Obligations.StoreOperationRefusesWrites : Prop :=
  ∀ (c : Instr) (k g : Byte) (s : State), Ready s → frameOf c = some (k, g) → storeKept c = true →
    misfits c = false → badIndex c = false → s.site.storeOp.isSome = true →
      exec c s = .next (s.replied k g .busy .none)

/-- The cabinet receiver, and a link byte outside an answer window. The rows touch the receiver alone or nothing. Byte by byte,
the bytes of a whole frame queue exactly the request they spell; a byte is discarded in HUNT unless it is the start byte; a stop-bit
error, a length outside 2 to 250 and a wrong CRC discard the frame, and a gap of more than 20 ms ends it; while held no byte is
taken. The rows' receiver, and a stop-bit error in HUNT or on the byte that ends a gap: the model's choice, log 28. -/
def Obligations.ReceiverRows : Prop :=
  (∀ (s : State) (k g : Byte) (body : List Byte), s.site.phase ≠ .held → s.site.rx = .hunt → body.length ≤ 248 →
    (cabinetFrame k g body).foldl (fun s b => s.receiveByte false b) s =
      { s with site := { s.site with rxLast := s.site.now }, pending := s.pending ++ [requestOf k g body] }) ∧
  (∀ (s : State) (bad : Bool) (b : Byte),
    let rx := s.site.rx
    let gap := 20000 < s.site.now - s.site.rxLast
    let lands := fun (x : Receiver) (row : Instr) => s.receiveByte bad b =
      { s with site := { s.site with rx := x, rxLast := s.site.now }, pending := s.pending ++ [row] }
    (s.site.phase = .held → s.receiveByte bad b = s) ∧
    (s.site.phase ≠ .held →
      (rx = .hunt → bad = true ∨ b ≠ 0xA5 → lands .hunt (.huntByteDiscarded b)) ∧
      (rx ≠ .hunt → ¬gap → bad = true → lands .hunt (.cabinetFrameDiscarded .stopBit)) ∧
      (rx ≠ .hunt → gap → bad = false → lands (if b = 0xA5 then .length else .hunt) (.interByteGapTimeout b)) ∧
      (rx ≠ .hunt → gap → bad = true → lands .hunt (.cabinetFrameDiscarded .stopBit)) ∧
      (rx = .length → ¬gap → bad = false → (b.toNat < 2 ∨ 250 < b.toNat) →
        lands .hunt (.cabinetFrameDiscarded .badLength)) ∧
      ∀ len got hi, rx = .check len got (some hi) → ¬gap → bad = false →
        bytes16 (crc16 (BitVec.ofNat 8 len :: got)) ≠ [hi, b] → lands .hunt (.cabinetFrameDiscarded .badCrc))) ∧
  ∀ s : State,
    (∀ why, exec (.cabinetFrameDiscarded why) s =
      .next (if s.site.phase = .held then s else { s with site := { s.site with rx := .hunt } })) ∧
    (∀ b, exec (.interByteGapTimeout b) s =
      .next (if s.site.phase = .held then s
        else { s with site := { s.site with rx := if b = 0xA5 then .length else .hunt } })) ∧
    (∀ b, exec (.huntByteDiscarded b) s = .next s) ∧
    ∀ b, exec (.linkByteOutsideWindow b) s = .next s

/-! ## Resets and LOADING -/

/-- The last byte of a reply: the reply leaves the transmit list, and its request is no longer pending if it is the reply to
the pending request and no BUSY reply. RESTART is answered OK and changes nothing else; after the last byte of its reply the
controller resets with the cause RESTART into LOADING, whatever it was doing; what a reset leaves of fields the manual names no
value for is the model's choice, log 30. -/
def Obligations.RepliesEndAndRestart : Prop :=
  (∀ s : State, s.site.tx = [] → exec .replySent s = .next s) ∧
  (∀ (s : State) (x : Reply) (rest : List Reply), s.site.tx = x :: rest →
    (x.restarts = false → exec .replySent s = .next { s with site := { s.site with
      tx := rest, requestPending := s.site.requestPending && !x.answers } }) ∧
    (x.restarts = true → exec .replySent s = .next (loadingState .restart s))) ∧
  ∀ (g : Byte) (s : State), Ready s →
    exec (.restart g (.fits ())) s = .next { s with site := { s.site with
      rx := .hunt, requestPending := true
      tx := s.site.tx ++ [{ kind := 0x39, tag := g, result := .ok, restarts := true }] } }

/-- The other resets: a power-on and the rise of the RESET line start LOADING with the straps as they then are; a brown-out
and a low RESET line hold the part in reset; the clock is UNSET by the first two kinds named after power, and kept by the line (fields without a stated value: log 30). -/
def Obligations.PowerAndResetLine : Prop :=
  ∀ (a b : Bool) (s : State),
    (s.site.resetLow = false → exec (.powerOn a b) s = .next (loadingState .power
      { s with site := { s.site with
        clock := none, secondEnd := none, powerGood := true, powerSinceRun := true, strap1 := a, strap2 := b } })) ∧
    (s.site.resetLow = true → exec (.powerOn a b) s = .next (heldState
      { s with site := { s.site with
        clock := none, secondEnd := none, powerGood := true, powerSinceRun := true, strap1 := a, strap2 := b } })) ∧
    exec .brownOut s = .next (heldState
      { s with site := { s.site with clock := none, secondEnd := none, powerGood := false } }) ∧
    exec .resetLineLow s = .next (heldState { s with site := { s.site with resetLow := true } }) ∧
    (s.site.resetLow = false → exec (.resetLineHigh a b) s = .next s) ∧
    (s.site.resetLow = true → s.site.powerGood = true → exec (.resetLineHigh a b) s = .next (loadingState .line
      { s with site := { s.site with resetLow := false, strap1 := a, strap2 := b } })) ∧
    (s.site.resetLow = true → s.site.powerGood = false → exec (.resetLineHigh a b) s = .next
      { s with site := { s.site with resetLow := false, strap1 := a, strap2 := b } })

/-- The end of LOADING, from what the start of LOADING left with the pins as they then stand. The part is RUNNING; timebases,
channels, triggers, paths, entries and the two timed checks start. An enabled segment is CLOSED with RESTART if one of its guard
gates does not show UP; otherwise it is OPEN, and a CLOSING entry that covers it holds it and takes it past its notice, no head
answering yet. Slots cut off or unreadable become BAD. Every enabled head is PROBING and due, the lowest is polled at once, and
every enabled sign has its page pending. With the clock UNSET, each gate takes its limits and its segment's target, those that must
move are queued in number order and the arbiter grants up to 3, each closed segment has posted its claim, and reports stand in
the order of the blocks, which is the model's choice (log 14, and by number within a block, log 41). Further choices: fields of LOADING
(log 30), first due moment (log 10), phase of the duty (log 33), the answer window counted from the choice of the POLL (log 15),
false as the toggle of a head without one (log 20), and a division of the reference that restarts with each timebase's count
(log 35). -/
def Obligations.EndOfLoading : Prop :=
  ∀ (k : StartCause) (s0 s : State),
    s.site = { (loadingState k s0).site with
      channels := s.site.channels, clock := s.site.clock, secondEnd := s.site.secondEnd, now := s.site.now
      rx := s.site.rx, rxLast := s.site.rxLast, requestPending := s.site.requestPending, tx := s.site.tx } →
    s.road.segments = Vector.replicate 6 {} → s.road.passes = Vector.replicate 8 .idle → s.road.queue = [] →
    s.road.signs = Vector.replicate 16 {} → s.road.heads = Vector.replicate 16 {} → s.road.link = none →
    (∀ g, s.road.gate g = { upLimit := (s.road.gate g).upLimit, downLimit := (s.road.gate g).downLimit
                            presence := (s.road.gate g).presence, trip := (s.road.gate g).trip }) →
    let e := s.site
    let guard := fun (n : SegId) (g : GateId) => (e.gateCfg g).enabled && decide ((e.gateCfg g).guarded = n)
    let closed := fun (n : SegId) => (e.segCfg n).enabled && (List.finRange 8).any fun g =>
      guard n g && !((s.road.gate g).upLimit && !(s.road.gate g).downLimit)
    let covers := fun (x : EntryId) (n : SegId) => (e.segCfg n).enabled &&
      decide (entryState e (e.entryCfg x) = .closing) && (e.entryCfg x).segments.getLsbD n.val
    let on := fun (h : SignId) => (e.signCfg h).enabled
    let first := (List.finRange 16).find? on
    let down := fun (g : GateId) => closed (e.gateCfg g).guarded
    let rests := fun (g : GateId) => (s.road.gate g).upLimit != (s.road.gate g).downLimit &&
      (s.road.gate g).downLimit == down g
    let conflict := fun (g : GateId) => (s.road.gate g).upLimit && (s.road.gate g).downLimit
    let moves := fun (g : GateId) => (e.gateCfg g).enabled && !rests g && !conflict g
    let blocked := fun (g : GateId) => (e.gateCfg g).presenceUsed && (s.road.gate g).presence
    let granted := (((List.finRange 8).filter fun g => moves g && down g && !blocked g) ++
      (List.finRange 8).filter fun g => moves g && !down g).take 3
    ∃ t, exec .loadingEnd s = .next t ∧ t.pending = s.pending ∧
      t.site = { e with
        phase := .running, powerSinceRun := false, holds := t.site.holds
        tbZero := Vector.replicate 4 e.now, slot := 0
        channels := Vector.ofFn fun c => { pin := (e.chan c).pin, restartedAt := e.now
                                           binEnd := if (e.chanCfg c).mode = .count then some (e.now + 1000000) else none }
        triggers := Vector.ofFn fun n => { state := if (e.trigCfg n).enabled then .armed else .disabled }
        paths := Vector.ofFn fun p => if (e.pathCfg p).enabled then { coverage := e.coverageOf p } else {}
        entries := Vector.ofFn fun n => entryState e (e.entryCfg n)
        sampleEnd := some (e.now + 1000000), rerenderAt := some (e.now + 30000000) } ∧
      (∀ n, (t.road.segment n).state =
          (if closed n then SegState.closed
          else if (List.finRange 16).any (covers · n) then
            (if (e.segCfg n).sweepTime = 0 ∧ (∀ g, guard n g = false) then .closed else .clearing)
          else .open) ∧
        ∀ h, (t.site.hold n).has h = match h with
          | .restart => closed n
          | .schedule x => covers x n
          | _ => false) ∧
      t.road.passes = s.road.passes ∧
      t.road.slots = (s.road.slots.map fun x => match x with
        | .writing _ => Slot.bad
        | .valid _ false => .bad
        | x => x) ∧
      t.road.link = first.map (fun h =>
        ({ head := h, step := .poll, wait := .answer (e.now + 50000), toggle := false } : Transaction)) ∧
      (∀ h, t.road.head h = { link := if on h then .probing else .unconfigured, lastEnd := e.now
                              due := if on h ∧ first ≠ some h then some e.now else none }) ∧
      (∀ h, let x := t.road.sign h
        x.sent = none ∧ x.confirmed = none ∧ x.pending.isSome = on h ∧
        ∀ p, x.pending = some p → p.page.claim = x.claims.head?.map (·.source) ∧
          p.page.cls = x.claims.head?.map (·.cls) ∧ p.page.cap = min (e.signCfg h).maxBrightness 100) ∧
      (e.clock = none →
        (∀ h, (t.road.sign h).claims =
          ((List.finRange 6).reverse.filter fun n => closed n && (e.segCfg n).noticeSet.getLsbD h.val).map fun n =>
            { source := .segment n, cls := .closure, template := (e.segCfg n).closureTemplate }) ∧
        (∀ g, let y := s.road.gate g
          let z := t.road.gate g
          let d : Dir := if down g then .down else .up
          let at_ : GateState := if y.upLimit && !y.downLimit then .up else if y.downLimit && !y.upLimit then .down else .unknown
          ((e.gateCfg g).enabled = false → z = { y with state := at_ }) ∧
          ((e.gateCfg g).enabled = true → z.target = some d ∧ z.upLimit = y.upLimit ∧ z.downLimit = y.downLimit ∧
            z.presence = y.presence ∧ z.trip = y.trip ∧
            (rests g = true → z = { y with state := at_, target := some d }) ∧
            (conflict g = true → z = { y with state := .faulted, target := some d, fault := some .limitConflict }))) ∧
        ((∀ g, (s.road.gate g).trip = false) →
          t.road.queue = (List.finRange 8).filter (fun g => moves g && !granted.contains g) ∧
          ∀ g, moves g = true →
            let y := s.road.gate g
            let c := e.gateCfg g
            t.road.gate g =
              if g ∈ granted then
                { y with
                  state := if down g then .lowering else .raising, target := some (if down g then .down else .up)
                  permit := true, duty := c.startDuty, dutyAt := e.now
                  travelTimer := some (e.now + c.travelLimit * 1000000)
                  rampTimer := if c.startDuty = c.runDuty then none else some (e.now + 100000) }
              else { y with state := if down g then .waitLower else .waitRaise
                            target := some (if down g then .down else .up) }) ∧
        ((∀ g, (s.road.gate g).trip = false ∧ conflict g = false) → s.road.reports.length ≤ 2 →
          (∀ n : SlotId, match s.road.slots[n] with
            | .writing _ => False
            | .valid _ ok => ok = true
            | _ => True) →
          (∀ p, (e.pathCfg p).enabled = true → e.coverageOf p = .full) →
          ∃ pages : List Report, (∀ x ∈ pages, x.kind = .templateEmpty ∨ x.kind = .templateBad) ∧
            t.road.lost = s.road.lost ∧
            t.road.reports = s.road.reports ++
              ((List.finRange 6).filter fun n => (e.segCfg n).enabled).map (fun n =>
                { kind := .segmentState, subject := n.val + 1
                  value := .segState (if closed n then .closed else .open), stamp := none }) ++
              ((List.finRange 16).filter on).map (fun h =>
                { kind := .headLinkState, subject := h.val + 1, value := .link .probing, stamp := none }) ++ pages))

/-- The machine right after reset is where a power-on of a part as it left the factory leads (log 1): its image is INVALID and its
slots are EMPTY, so the working configuration is the all-disabled one, and START and STORE_FAULT are queued. -/
def Obligations.ResetState : Prop :=
  State.reset = loadingState .power {} ∧ State.reset.site.phase = .loading ∧ State.reset.site.clock = none ∧
    State.reset.site.cfg = WorkingConfig.allDisabled ∧ State.reset.site.stage = .normal ∧
    State.reset.road.reports = [
      { kind := .start, subject := 0, value := .startCause .power, stamp := none },
      { kind := .storeFault, subject := 0, value := .config, stamp := none }]

/-- The machine right after reset keeps every bound and every relation that later statements say each step keeps. The model's
choices: which moment the reset state is (log 1), and that segments are OPEN without holds, paths QUIET and entries IDLE until
LOADING ends (log 30). -/
def Obligations.ResetMeetsInvariants : Prop :=
  Bounded State.reset ∧ AttnOk State.reset ∧ PermitsOk State.reset ∧ ClosuresOk State.reset ∧ SchedulesOk State.reset

/-! ## Status requests -/

/-- GET_IDENTITY and GET_CLOCK. GET_IDENTITY is answered in LOADING and in RUNNING; GET_CLOCK carries the local time of day, or
NOT_SET with the zone offset alone. -/
def Obligations.IdentityAndClockReads : Prop :=
  (∀ (g : Byte) (s : State), s.site.phase ≠ .held → s.site.requestPending = false → s.site.tx.length < 4 →
    exec (.getIdentity g (.fits ())) s = .next (s.replied 0x01 g .ok (.identity
      { part := "WPC-816", revision := Config.siliconRevision, phase := s.site.phase, cause := s.site.startCause, rate := s.site.lineRate
        image := s.site.image.state, storeOp := s.site.storeOp }))) ∧
  (∀ (g : Byte) (s : State), Ready s → s.site.clock = none →
    exec (.getClock g (.fits ())) s = .next (s.replied 0x03 g .notSet (.zoneOnly s.site.cfg.zone))) ∧
  ∀ (g : Byte) (s : State) (v : ClockValue), Ready s → s.site.clock = some v →
    exec (.getClock g (.fits ())) s = .next (s.replied 0x03 g .ok
      (.clock v s.site.cfg.zone (((v.toNat : Int) + s.site.cfg.zone) % 86400).toNat))

/-- GET_SEGMENT and GET_GATE answer OK with the fields their rules list, enabled or not, and change nothing; seconds of
timers are rounded up, other times to the nearest by the Conventions, and a queue position counts from 1 for the oldest entry.
That a pass which waits shows its whole duration is the model's choice (log 31). -/
def Obligations.SegmentAndGateReads : Prop :=
  (∀ (g : Byte) (n : SegId) (s : State), Ready s →
    exec (.getSegment g (.fits (n.val + 1))) s = .next (s.replied 0x40 g .ok (.segment
      { cfg := s.site.segCfg n, state := (s.road.segment n).state, holds := s.site.hold n
        guards := (List.finRange 8).filter fun x => (s.site.gateCfg x).enabled && (s.site.gateCfg x).guarded == n
        noticeLeft := match (s.road.segment n).noticeTimer with
          | some t => (t - s.site.now + 999999) / 1000000
          | none => 0
        sweepLeft := match (s.road.segment n).sweepTimer with
          | some t => (t - s.site.now + 999999) / 1000000
          | none => 0
        unguarded := (s.road.segment n).unguarded, noticeIncomplete := (s.road.segment n).noticeIncomplete
        passes := ((List.finRange 8).filter fun x =>
            (s.site.gateCfg x).enabled && (s.site.gateCfg x).guarded == n).map fun x =>
          { gate := x, pass := s.road.pass x
            left := match s.road.pass x with
              | .idle => 0
              | .waiting d => d
              | .running _ t => (2 * (t - s.site.now) + 1000000) / 2000000 } }))) ∧
  ∀ (g : Byte) (x : GateId) (s : State), Ready s →
    exec (.getGate g (.fits (x.val + 1))) s = .next (s.replied 0x41 g .ok (.gate
      { cfg := s.site.gateCfg x, state := (s.road.gate x).state, target := (s.road.gate x).target
        fault := (s.road.gate x).fault, upLimit := (s.road.gate x).upLimit, downLimit := (s.road.gate x).downLimit
        presence := (s.road.gate x).presence, trip := (s.road.gate x).trip, retryCount := (s.road.gate x).retryCount
        permit := (s.road.gate x).permit
        queuePos := if x ∈ s.road.queue then s.road.queue.idxOf x + 1 else 0
        duty := (s.road.gate x).duty
        travelLeft := (s.road.gate x).travelTimer.map fun t => (t - s.site.now + 999999) / 1000000
        pauseLeft := (s.road.gate x).pauseTimer.map fun t => (2 * (t - s.site.now) + 1000) / 2000
        holdOffLeft := (s.road.gate x).holdOffTimer.map fun t => (2 * (t - s.site.now) + 1000) / 2000
        retryLeft := (s.road.gate x).retryTimer.map fun t => (2 * (t - s.site.now) + 1000) / 2000
        displaceLeft := (s.road.gate x).displaceTimer.map fun t => (2 * (t - s.site.now) + 1000) / 2000 }))

/-- GET_SIGN and GET_PATH answer OK with the fields their rules list, enabled or not, and change nothing. The model's choices:
the shown claim given by its source alone (log 31), the time until due while the head's own exchange outlasts its interval (log 31), and the step of an exchange that is ignored
(log 29). -/
def Obligations.SignAndPathReads : Prop :=
  (∀ (g : Byte) (h : SignId) (s : State), Ready s →
    exec (.getSign g (.fits (h.val + 1))) s = .next (s.replied 0x42 g .ok (.sign
      { cfg := s.site.signCfg h, claims := (s.road.sign h).claims
        shown := (s.road.sign h).claims.head?.map (·.source), pending := (s.road.sign h).pending.map (·.page)
        sent := (s.road.sign h).sent, confirmed := (s.road.sign h).confirmed, link := (s.road.head h).link
        toggle := (s.road.head h).toggle, missed := (s.road.head h).missed, naks := (s.road.head h).naks
        nextTag := (s.road.head h).nextTag, status := (s.road.head h).status
        inProgress := match s.road.link with
          | some t => if t.head = h then some t.step else none
          | none => none
        dueIn := match (s.road.head h).due, pollEvery s.site.stage (s.road.head h).link with
          | some _, _ => some 0
          | none, some d => some (min 65535 ((2 * ((s.road.head h).lastEnd + d - s.site.now) + 1000) / 2000))
          | none, none => none
        sinceLast := min 65535 ((2 * (s.site.now - (s.road.head h).lastEnd) + 1000) / 2000) }))) ∧
  ∀ (g : Byte) (p : PathId) (s : State), Ready s →
    exec (.getPath g (.fits (p.val + 1))) s = .next (s.replied 0x43 g .ok (.path
      { path := p, cfg := s.site.pathCfg p, detection := (s.site.path p).detection, declared := (s.site.path p).declared
        closeOption := (s.site.path p).closeOption
        confirmLeft := match (s.site.path p).confirmTimer with
          | some t => (t - s.site.now + 999999) / 1000000
          | none => 0
        coverage := (s.site.path p).coverage, det1 := detectorView s.site p .first (s.site.pathCfg p).det1
        det2 := (s.site.pathCfg p).det2.map (detectorView s.site p .second)
        holdPath := (s.site.hold (s.site.pathCfg p).crossing).has (.path p)
        holdHazard := (s.site.hold (s.site.pathCfg p).crossing).has (.hazard p)
        claimSigns := claimedSigns s.road (s.site.pathCfg p).signs (.path p)
        pattern := (wantsOf (s.site.pathCfg p) (s.site.path p)).pattern, wanted := (s.site.path p).wanted
        active := (s.site.path p).active, lit := (s.site.path p).lit }))

/-- GET_TRIGGER and GET_SCHEDULE answer OK with the fields their rules list, enabled or not, and change nothing. An entry's state
next changes at its open time, at its close time or a lead before that; never when the clock is UNSET, the entry is disabled
or ENDED, or a DAILY entry's lead reaches from its close time back to its open time. The model's choice: a wrap of the clock
within the coming day is not looked ahead to (log 36). -/
def Obligations.TriggerAndScheduleReads : Prop :=
  (∀ (g : Byte) (k : TrigId) (s : State), Ready s →
    exec (.getTrigger g (.fits (k.val + 1))) s = .next (s.replied 0x44 g .ok (.trigger
      (let stands := decide ((s.site.trigger k).state = .active) || decide ((s.site.trigger k).state = .falling)
       { cfg := s.site.trigCfg k, state := (s.site.trigger k).state, count := (s.site.trigger k).count
         latest := (s.site.trigger k).latest, stands := stands
         holdSegments :=
           if stands then segSetOf fun n => hasSeg (s.site.trigCfg k).segments n && (s.site.segCfg n).enabled else 0
         claimSigns := if stands then claimedSigns s.road (s.site.trigCfg k).signs (.trigger k) else 0 })))) ∧
  ∀ (g : Byte) (n : EntryId) (s : State), Ready s →
    exec (.getSchedule g (.fits (n.val + 1))) s = .next (s.replied 0x46 g .ok (.schedule
      { cfg := s.site.entryCfg n, state := s.site.entry n
        holdSegments := if s.site.entry n = .closing
          then segSetOf fun i => hasSeg (s.site.entryCfg n).segments i && (s.site.segCfg i).enabled else 0
        claimSigns := claimedSigns s.road (s.site.entryCfg n).signs (.schedule n)
        nextChange :=
          let c := s.site.entryCfg n
          match s.site.clock with
          | none => none
          | some v =>
            let l : Int := ((v.toNat : Int) + s.site.cfg.zone) % 86400
            let d : Nat := ((l - c.closeTime) % 86400).toNat
            let w : Nat := (((c.openTime : Int) - c.closeTime) % 86400).toNat
            if c.enabled = false then none
            else
              match c.kind with
              | .once =>
                match s.site.entry n with
                | .ended => none
                | .closing => some (c.openTime - v.toNat)
                | .lead => some (c.closeTime - v.toNat)
                | .idle => some (c.closeTime - c.lead - v.toNat)
              | .daily =>
                if 86400 ≤ c.lead + w then none
                else if d < w then some (w - d)
                else if 86400 - d ≤ c.lead then some (86400 - d)
                else some (86400 - d - c.lead) }))

/-- GET_QUANTITIES: OK with the 22 quantities in order and the number of samples in the A9 ring, from the table as it stands;
BUSY in LOADING. GET_SUPPLY: OK, also during a store operation, with the fields of its rule as they stand; GET_RECORD for the
supply kind returns the record alone. -/
def Obligations.QuantitiesAndSupplyReads : Prop :=
  (∀ (g : Byte) (s : State), Ready s →
    exec (.getQuantities g (.fits ())) s =
      .next (s.replied 0x45 g .ok (.quantities s.site.table s.site.supplyIn.ring.length))) ∧
  (∀ (g : Byte) (s : State), s.site.phase = .loading → s.site.requestPending = false → s.site.tx.length < 4 →
    exec (.getQuantities g (.fits ())) s = .next (s.replied 0x45 g .busy .none)) ∧
  (∀ (g : Byte) (s : State), Ready s →
    exec (.getSupply g (.fits ())) s = .next (s.replied 0x47 g .ok (.supply
      { cfg := s.site.cfg.supply, supply := s.site.table[(21 : Fin 22)], samples := s.site.supplyIn.ring.length
        stage := s.site.stage, established := s.site.established, fall := s.site.fall, deep := s.site.deep
        rise := s.site.rise
        permitCount := match s.site.stage with
          | .normal => 3
          | .economy => 2
          | .reserve => 1
        holders := ((List.finRange 8).filter fun x => (s.road.gate x).permit).length
        cap := match s.site.stage with
          | .normal => 100
          | .economy => 60
          | .reserve => 30
        pollInterval := match s.site.stage with
          | .normal => 10
          | .economy => 20
          | .reserve => 30 }))) ∧
  ∀ (g : Byte) (s : State), Ready s →
    exec (.getRecord g (.fits { kind := 9, index := 0 })) s =
      .next (s.replied 0x1C g .ok (.record 0 (.supply s.site.cfg.supply) .none))

/-- Bytes on the two lines. A reply's frame is its kind plus 0x80, tag, result code and content with their CRC; a report record is
12 bytes from which kind, class, subject, a number and the timestamp can be read back; every record that a write whose fields
fit their bytes has made, printed as GET_RECORD carries it, is read by that write's request as the same index and record. A
link frame is the one its step
calls for, and an answer frame, in an answer window, is the answer it spells, with a wrong check a bad one. Where the manual
leaves a place of a body open, and the sent page of a packet sent again: the model's choice, logs 21, 22 and 40. -/
def Obligations.BytesOnBothLines : Prop :=
  let framed := fun (start : Byte) (l : List Byte) => start :: l ++ bytes16 (crc16 l)
  (∀ x : Reply, let l := contentBytes x.body
    replyFrame x = framed 0xA5
      (BitVec.ofNat 8 (l.length + 3) :: (if x.kind.toNat < 128 then x.kind + 0x80 else x.kind) :: x.tag :: x.result.code :: l)) ∧
  (∀ x : Report, (reportBytes x).length = 12 ∧ (reportBytes x).take 2 = [x.kind.code, BitVec.ofNat 8 x.kind.cls.rank] ∧
    (reportBytes x)[2]? = some (BitVec.ofNat 8 x.subject) ∧
    (∀ n : Int, -2147483648 ≤ n → n < 2147483648 → x.value = .number n →
      (takeNat 4 0 ((reportBytes x).drop 3)).map (fun v => signedField 4 v.1) = some n) ∧
    (reportBytes x)[7]? = some (if x.stamp.isSome then 1 else 0) ∧
    takeNat 4 0 ((reportBytes x).drop 8) = some ((x.stamp.map BitVec.toNat).getD 0, [])) ∧
  (∀ a b : ReportKind, a.code = b.code → a = b) ∧
  ReadsBack SegmentReq.fits segmentOf (·.index) segmentBody segmentBytes ∧
  ReadsBack GateReq.fits gateOf (·.index) gateBody gateBytes ∧
  ReadsBack SignReq.fits signOf (·.index) signBody signBytes ∧
  (∀ t, ReadsBack TimebaseReq.fits (timebaseOf t) (·.index) timebaseBody timebaseBytes) ∧
  ReadsBack ChannelReq.fits channelOf (·.index) channelBody channelBytes ∧
  ReadsBack StationReq.fits stationOf (·.index) stationBody stationBytes ∧
  ReadsBack TriggerReq.fits triggerOf (·.index) triggerBody triggerBytes ∧
  ReadsBack PathReq.fits pathOf (·.index) pathBody pathBytes ∧
  ReadsBack ScheduleReq.fits scheduleOf (·.index) scheduleBody scheduleBytes ∧
  (∀ q c, SupplyCfg.fits q = true → supplyOf q = some c → ∃ x, supplyBody (supplyBytes c) = .fits x ∧ supplyOf x = some c) ∧
  (∀ z : Int, -43200 ≤ z → z ≤ 50400 → zoneBody (recordBytes 0 (.zone z)) = .fits z) ∧
  (∀ l, attentionBody (recordBytes 0 (.attention l)) = .fits (some l)) ∧
  (∀ (n : TemplateNo) (ls : List (List RawItem)) (t : Template), templateOf ls = some t →
    ∃ x, templateBody (templateBytes n t) = .fits x ∧ x.slot = n.val ∧ templateOf x.lines = some t) ∧
  ∀ (r : Road) (t : Transaction) (w : Nat), r.link = some t → t.wait = .answer w →
    let a : Byte := BitVec.ofNat 8 (t.head.val + 1)
    let data := t.step = .command ∨ t.step = .text1 ∨ t.step = .text2
    let toggle : Byte := if t.toggle then 1 else 0
    let answer := fun (kind ctl : Byte) (l : List Byte) =>
      r.judge (framed 0x5A (a :: kind :: BitVec.ofNat 8 l.length :: ctl :: l))
    (¬data → r.frameSent = some (framed 0x5A [a, 0x01, 0, 0])) ∧
    (∀ s, (r.sign t.head).sent = some s →
      let text := fun (n : Byte) (l : List Nat) => framed 0x5A (a :: 0x03 :: BitVec.ofNat 8 (l.length + 1) :: toggle :: n ::
        l.map (BitVec.ofNat 8))
      (t.step = .command → r.frameSent = some (framed 0x5A ([a, 0x02, 10, toggle, s.tag, BitVec.ofNat 8 s.page.template.val,
        (match s.page.cls with
          | some c => BitVec.ofNat 8 c.num
          | none => 6), BitVec.ofNat 8 (sourceCode s.page.claim), BitVec.ofNat 8 s.page.cap,
        if s.page.flashing then 1 else 0] ++ bytes16 (BitVec.ofNat 16 s.page.text.sum) ++ [3, 18]))) ∧
      (t.step = .text1 → r.frameSent = some (text 1 (s.page.text.take 27))) ∧
      (t.step = .text2 → r.frameSent = some (text 2 ((s.page.text.drop 27).take 27)))) ∧
    (∀ (x : HeadStatus) (ctl : Byte),
      let flags : Byte := (if x.displayFail then 1 else 0) + (if x.doorOpen then 2 else 0) + (if x.heaterFail then 4 else 0)
      answer 0x81 ctl ([if x.phase = .ready then 0 else 1, x.shownTag, if x.toggle then 1 else 0, x.brightness, flags] ++
        bytes16 x.ambient ++ [x.latestPacket]) = some (if data then .badAnswerReceived .kind else .statusReceived x)) ∧
    (∀ ctl, answer 0x82 ctl [] = some (if data then .ackReceived else .badAnswerReceived .kind) ∧
      answer 0x83 ctl [] = some (if data then .nakReceived else .badAnswerReceived .kind) ∧
      answer 0x84 ctl [] = some (if data then .stallReceived else .badAnswerReceived .kind)) ∧
    ∀ (b kind n ctl : Byte) (l check : List Byte), l.length = n.toNat → check.length = 2 →
      check ≠ bytes16 (crc16 (b :: kind :: n :: ctl :: l)) →
      r.judge (0x5A :: b :: kind :: n :: ctl :: (l ++ check)) = some (.badAnswerReceived .check)

/-- GET_RECORD answers OK with the record of each kind and, for timebases, channels and stations, its measurement status; a kind
outside the table is refused with BAD_VALUE. Nothing changes. -/
def Obligations.RecordReads : Prop :=
  ∀ (g : Byte) (s : State), Ready s →
    let ask := fun (k n : Nat) => exec (.getRecord g (.fits { kind := k, index := n })) s
    let tell := fun (n : Nat) (r : RecordValue) (x : RecordStatus) => Host.Outcome.next (s.replied 0x1C g .ok (.record n r x))
    (∀ n : SegId, ask 0 (n.val + 1) = tell (n.val + 1) (.segment s.site.cfg.segments[n]) .none) ∧
    (∀ n : GateId, ask 1 (n.val + 1) = tell (n.val + 1) (.gate s.site.cfg.gates[n]) .none) ∧
    (∀ n : SignId, ask 2 (n.val + 1) = tell (n.val + 1) (.sign s.site.cfg.signs[n]) .none) ∧
    (∀ n : TbId, ask 3 n.val = tell n.val (.timebase s.site.cfg.timebases[n])
      (.timebase (min ((s.site.now - s.site.tbZero[n]) / (s.site.tbCfg n).rate.division) 16777215)
        (if n = 3 then some s.site.slot else none))) ∧
    (∀ n : ChanId, ask 4 n.val = tell n.val (.channel s.site.cfg.channels[n])
      (match (s.site.chanCfg n).mode with
        | .off => .channelOff
        | .period => .channelPeriod (s.site.chan n).edgeCount (s.site.chan n).reference.isSome
            ((s.site.chan n).latest.map (·.ticks))
            ((s.site.chan n).latest.map fun p => min 65535 ((2 * (s.site.now - p.completed) + 1000) / 2000))
        | .lowWidth => .channelLowWidth (s.site.seenHigh n) (s.site.lowMs n) (s.site.highMs n) (s.site.chan n).continuity
        | .count => .channelCount (s.site.chan n).bin (s.site.chan n).bins.length (s.site.chan n).bins)) ∧
    (∀ n : StationId, ask 5 (n.val + 1) = tell (n.val + 1) (.station s.site.cfg.stations[n])
      (let seen := fun (i : Option (Fin 9)) (x : Analog) => i.map fun i =>
         ({ code := s.site.codes[inputOf i], samples := x.ring.length, fault := x.fault } : AnalogStatus)
       .station (seen (s.site.stationCfg n).airInput (s.site.station n).air)
         (seen (s.site.stationCfg n).surfInput (s.site.station n).surf)
         (seen (s.site.stationCfg n).rhInput (s.site.station n).rh)
         ((s.site.stationCfg n).wind.map fun _ =>
           { samples := (s.site.station n).windRing.length, latest := (s.site.station n).windRing.head?
             outcome := (s.site.station n).windOutcome }))) ∧
    (∀ n : TrigId, ask 6 (n.val + 1) = tell (n.val + 1) (.trigger s.site.cfg.triggers[n]) .none) ∧
    (∀ n : PathId, ask 7 (n.val + 1) = tell (n.val + 1) (.path s.site.cfg.paths[n]) .none) ∧
    (∀ n : EntryId, ask 8 (n.val + 1) = tell (n.val + 1) (.schedule s.site.cfg.entries[n]) .none) ∧
    ask 10 0 = tell 0 (.zone s.site.cfg.zone) .none ∧ ask 11 0 = tell 0 (.attention s.site.cfg.attention) .none ∧
    ∀ k n, 11 < k → ask k n = .next (s.replied 0x1C g .badValue .none)

/-- GET_TEMPLATE: slot 0 is three runs of 18 spaces; a WRITING or readable VALID slot shows its lines with their cell counts, an
EMPTY or BAD one none; a VALID slot found unreadable becomes BAD with one STORE_FAULT report, and the reply shows BAD. -/
def Obligations.TemplateReads : Prop :=
  (∀ (g : Byte) (s : State), Ready s →
    exec (.getTemplate g (.fits 0)) s = .next (s.replied 0x21 g .ok (.template 0 .valid (some
      ({ line1 := List.replicate 18 (.char 32), line2 := List.replicate 18 (.char 32)
         line3 := List.replicate 18 (.char 32) }, 18, 18, 18))))) ∧
  ∀ (g : Byte) (n : SlotId) (s : State), Ready s →
    let cells := fun (l : List Item) => (l.map fun x => match x with
      | .char _ => 1
      | .field (.wind _) => 3
      | .field (.gust _) => 3
      | .field _ => 5).sum
    let shows := fun (k : SlotKind) (t : Option Template) => ReplyBody.template (slotNumber n) k
      (t.map fun t => (t, cells t.line1, cells t.line2, cells t.line3))
    let spoiled : Road := { s.road with slots := s.road.slots.set n .bad }
    exec (.getTemplate g (.fits (n.val + 1))) s = .next
      (match s.road.slots[n] with
        | .empty => s.replied 0x21 g .ok (shows .empty none)
        | .bad => s.replied 0x21 g .ok (shows .bad none)
        | .writing t => s.replied 0x21 g .ok (shows .writing (some t))
        | .valid t true => s.replied 0x21 g .ok (shows .valid (some t))
        | .valid _ false =>
          State.replied 0x21 g .ok (shows .bad none)
            { s with road := spoiled.report s.site .storeFault (n.val + 1) .template })

/-- FETCH_REPORTS: up to 8 reports, highest class first and oldest first within a class, are delivered and removed; the reply
carries the flag as it stood, the number left and the reports in the order of choice; the flag is cleared and ATTN follows. -/
def Obligations.FetchReports : Prop :=
  ∀ (g : Byte) (s : State), Ready s →
    let ranked := fun (k : Nat) (l : List Report) => l.filter fun x => x.rank == k
    let q := s.road.reports
    let delivered := (ranked 3 q ++ ranked 2 q ++ ranked 1 q ++ ranked 0 q).take 8
    ∃ left : List Report,
      exec (.fetchReports g (.fits ())) s = .next (State.replied 0x48 g .ok (.reports s.road.lost left.length delivered)
        { s with road := { s.road with
            reports := left, lost := false, attn := left.any fun x => s.site.cfg.attention.rank ≤ x.rank } }) ∧
      left.Sublist q ∧ (delivered ++ left).Perm q ∧
      ∀ k, ranked k left = (ranked k q).drop (ranked k delivered).length

/-! ## Configuration writes -/

/-- PUT_SEGMENT, accepted: the limits are clamped, the record stored and returned. A segment enabled by the write takes up a
hold for each standing trigger and each CLOSING entry whose set contains it; where none does, and for any other write,
nothing else changes. -/
def Obligations.PutSegmentStores : Prop :=
  ∀ (g : Byte) (n : SegId) (en : Bool) (notices : SignSet) (t : TemplateNo) (limit sweep : Nat) (m : ReopenMode) (s : State),
    Writable s → t ≠ 0 → (s.road.segment n).state = .open →
    (en = false → ∀ p, (s.site.pathCfg p).enabled = true → (s.site.pathCfg p).crossing ≠ n) →
    let c : SegmentCfg :=
      { enabled := en, noticeSet := notices, closureTemplate := t, noticeLimit := max 30 (min 900 limit)
        sweepTime := min 3600 sweep, reopenMode := m }
    let stands : Hold → Bool := fun h =>
      match h with
      | .trigger k => (decide ((s.site.trigger k).state = .active) || decide ((s.site.trigger k).state = .falling)) &&
          (s.site.trigCfg k).enabled && hasSeg (s.site.trigCfg k).segments n
      | .schedule x => decide (s.site.entry x = .closing) && hasSeg (s.site.entryCfg x).segments n
      | _ => false
    let newly := en && !(s.site.segCfg n).enabled
    ∃ u : State,
      exec (.putSegment g (.fits { index := n.val + 1, enabled := some en, noticeSet := notices, closureTemplate := t.val
                                   noticeLimit := limit, sweepTime := sweep, reopenMode := some m })) s =
        .next (u.replied 0x10 g .ok (.stored (n.val + 1) (.segment c))) ∧
      u.pending = s.pending ∧
      u.site = { s.site with cfg := { s.site.cfg with segments := s.site.cfg.segments.set n c }, holds := u.site.holds } ∧
      (∀ i, i ≠ n → u.site.hold i = s.site.hold i) ∧
      (∀ h, (u.site.hold n).has h = ((s.site.hold n).has h || (newly && stands h))) ∧
      ((∀ h, (newly && stands h) = false) → u.road = s.road)

/-- PUT_GATE, accepted on a gate at rest: the record is stored clamped, and of Site nothing else changes. With no pass and no
gate queued, of Road only the gate changes: disabled, it follows its limits without fault or target; enabled with its up
limit on an OPEN segment, it is UP with target UP; and a gate that stays enabled, UP with target UP, keeps its state and loses
its retry count. -/
def Obligations.PutGateStores : Prop :=
  ∀ (g : Byte) (x : GateId) (en pr : Bool) (b : Fin 7) (i : SegId) (travel start run pause retries : Nat) (s : State),
    Writable s → (b.val = i.val ∨ b.val = i.val + 1) →
    ((s.road.gate x).state = .up ∨ (s.road.gate x).state = .down ∨ (s.road.gate x).state = .unknown ∨
      (s.road.gate x).state = .faulted) →
    let c : GateCfg :=
      { enabled := en, boundary := b, guarded := i, travelLimit := max 5 (min 120 travel)
        startDuty := max 20 (min 100 start), runDuty := max 20 (min 100 run), reversalPause := max 200 (min 2000 pause)
        retries := min 3 retries, presenceUsed := pr }
    let ask := exec (.putGate g (.fits
      { index := x.val + 1, enabled := some en, boundary := b.val, guarded := i.val + 1, travelLimit := travel
        startDuty := start, runDuty := run, reversalPause := pause, retries := retries, presenceUsed := some pr })) s
    let e : Site := { s.site with cfg := { s.site.cfg with gates := s.site.cfg.gates.set x c } }
    let leaves := fun (y : Gate) => ask = .next (State.replied 0x11 g .ok (.stored (x.val + 1) (.gate c))
      { site := e, road := { s.road with gates := s.road.gates.set x y }, pending := s.pending })
    let y := s.road.gate x
    (∃ u : State, ask = .next (u.replied 0x11 g .ok (.stored (x.val + 1) (.gate c))) ∧ u.pending = s.pending ∧ u.site = e) ∧
    ((s.site.gateCfg x).enabled = false → s.road.pass x = .idle → s.road.queue = [] →
      (en = false → leaves
        { state := if y.upLimit && !y.downLimit then .up else if y.downLimit && !y.upLimit then .down else .unknown
          upLimit := y.upLimit, downLimit := y.downLimit, presence := y.presence, trip := y.trip }) ∧
      (en = true → y.upLimit = true → y.downLimit = false → (s.road.segment i).state = .open →
        leaves { y with state := .up, target := some .up, retryCount := 0 })) ∧
    ((s.site.gateCfg x).enabled = true → (s.site.gateCfg x).guarded = i → en = true → y.state = .up →
      y.target = some .up → (s.road.segment i).state = .open → s.road.pass x = .idle → s.road.queue = [] →
        leaves { y with retryCount := 0 })

/-- PUT_SIGN, accepted in every state: the record is stored clamped, and of Site nothing else changes. With no segment in
NOTICE and the link busy with another head, exactly the sign and its head restart: a disabled sign's head is UNCONFIGURED; an
enabled sign without claims and with standing template 0 has the blank page pending and its head PROBING, due at once; a
head due in PROBING before is due anew, by the model's choice (log 42). -/
def Obligations.PutSignRestarts : Prop :=
  ∀ (g : Byte) (h : SignId) (en : Bool) (bright : Nat) (t : TemplateNo) (s : State), Writable s →
    let c : SignCfg := { enabled := en, maxBrightness := max 10 (min 100 bright), standing := t }
    let ask := exec (.putSign g (.fits
      { index := h.val + 1, enabled := some en, maxBrightness := bright, standing := t.val })) s
    let e : Site := { s.site with cfg := { s.site.cfg with signs := s.site.cfg.signs.set h c } }
    let link : LinkState := if en then .probing else .unconfigured
    let told := fun (r : Road) =>
      if (s.road.head h).link = link then r else r.report s.site .headLinkState (h.val + 1) (.link link)
    let leaves := fun (page : Option PendingPage) (stamps : Nat) =>
      ask = .next (State.replied 0x12 g .ok (.stored (h.val + 1) (.sign c))
        { site := e, pending := s.pending
          road := told { s.road with
            signs := s.road.signs.set h
              { claims := (s.road.sign h).claims, pending := page, sent := none, confirmed := none, unusable := none }
            heads := s.road.heads.set h
              { link := link, toggle := none, missed := 0, naks := 0, nextTag := (s.road.head h).nextTag
                lastEnd := (s.road.head h).lastEnd, due := if en then some s.site.now else none, status := none }
            stamps := stamps } })
    (∃ u : State, ask = .next (u.replied 0x12 g .ok (.stored (h.val + 1) (.sign c))) ∧ u.pending = s.pending ∧ u.site = e) ∧
    (NoNotice s.site s.road → ∀ x, s.road.link = some x → x.head ≠ h →
      (en = false → leaves none s.road.stamps) ∧
      (en = true → (s.road.sign h).claims = [] → t = 0 →
        leaves (some { page := { text := List.replicate 54 32, template := 0, cls := none, claim := none
                                 cap := min (max 10 (min 100 bright)) s.site.stage.cap, flashing := false }
                       since := s.road.stamps }) (s.road.stamps + 1)))

/-- PUT_TIMEBASE: the same record changes nothing; a changed one is stored, zeroes the count and restarts exactly the channels
that select the timebase; T3 leaving FLASH lights each beacon by its wanted mask, and T3 entering it starts a cycle at slot
0. FLASH is refused with IN_USE while a channel selects T3. That the division of the reference restarts with the count is the
model's choice (log 35). -/
def Obligations.PutTimebaseActs : Prop :=
  ∀ (g : Byte) (t : TbId) (r : Rate) (m : TbMode) (s : State), Writable s → (m = .flash → t = 3 ∧ r = .khz125) →
    let c : TimebaseCfg := { rate := r, mode := m }
    let old := s.site.tbCfg t
    let selects := fun (n : ChanId) =>
      (decide ((s.site.chanCfg n).mode = .period) || decide ((s.site.chanCfg n).mode = .lowWidth)) &&
        decide ((s.site.chanCfg n).timebase = t)
    let ask := exec (.putTimebase g (.fits { index := t.val, rate := some r, mode := some m })) s
    (m = .flash → old.mode = .free → (∃ n, selects n = true) → ask = .next (s.replied 0x13 g .inUse .none)) ∧
    ((m = .flash → old.mode = .free → ∀ n, selects n = false) →
      (c = old → ask = .next (s.replied 0x13 g .ok (.stored t.val (.timebase c)))) ∧
      (c ≠ old → ask = .next (State.replied 0x13 g .ok (.stored t.val (.timebase c)) { s with site := { s.site with
        cfg := { s.site.cfg with timebases := s.site.cfg.timebases.set t c }
        tbZero := s.site.tbZero.set t s.site.now
        channels := Vector.ofFn fun n =>
          if selects n then { pin := (s.site.chan n).pin, restartedAt := s.site.now } else s.site.chan n
        slot := if t = 3 ∧ old.mode = .free ∧ m = .flash then 0 else s.site.slot
        paths := Vector.ofFn fun p =>
          let x := s.site.path p
          if t = 3 ∧ old.mode = .flash ∧ m = .free then { x with lit := x.wanted != 0 }
          else if t = 3 ∧ old.mode = .free ∧ m = .flash then { x with active := x.wanted, lit := x.wanted.getLsbD 0 }
          else x } })))

/-- PUT_CHANNEL, accepted: the record is stored and the channel restarted, whatever it was; a path that has the channel as a
detector, and so is QUIET, works out its coverage, and a seismic detector on it counts its bins from 0. Road changes by
reports alone. A channel of a path that is not QUIET, and one that would select T3 in FLASH mode, are refused with IN_USE. -/
def Obligations.PutChannelRestarts : Prop :=
  ∀ (g : Byte) (n : ChanId) (m : ChanMode) (edges : Edges) (t : TbId) (inv : Bool) (s : State), Writable s →
    let c : ChannelCfg := { mode := m, edges := edges, timebase := t, inverted := inv }
    let ask := exec (.putChannel g (.fits
      { index := n.val, mode := some m, edges := some edges, timebase := t.val, inverted := some inv })) s
    let on1 := fun (p : PathId) => (s.site.pathCfg p).enabled && decide ((s.site.pathCfg p).det1.chan = n)
    let on2 := fun (p : PathId) => (s.site.pathCfg p).enabled && (s.site.pathCfg p).det2.any fun d => d.chan == n
    let t3 := (decide (m = .period) || decide (m = .lowWidth)) && decide (t = 3) && decide ((s.site.tbCfg 3).mode = .flash)
    let e : Site := { s.site with
      cfg := { s.site.cfg with channels := s.site.cfg.channels.set n c }
      channels := s.site.channels.set n
        { pin := (s.site.chan n).pin, restartedAt := s.site.now
          levelCount := if m = .lowWidth then min ((s.site.now - s.site.tbZero[t]) / (s.site.tbCfg t).rate.division) 16777215
            else 0
          binEnd := if m = .count then some (s.site.now + 1000000) else none } }
    let again := fun (x : DetectorRt) (k : DetKind) => if k = .seismic then { x with bins := 0 } else x
    (((∃ p, (on1 p || on2 p) = true ∧ (s.site.path p).detection ≠ .quiet) ∨ t3 = true) →
      ask = .next (s.replied 0x14 g .inUse .none)) ∧
    ((∀ p, (on1 p || on2 p) = true → (s.site.path p).detection = .quiet) → t3 = false →
      ∃ r : Road, ask = .next (State.replied 0x14 g .ok (.stored n.val (.channel c))
        { pending := s.pending
          site := { e with
            paths := Vector.ofFn fun p =>
              let x := s.site.path p
              let second := match (s.site.pathCfg p).det2 with
                | some d => again x.det2 d.kind
                | none => x.det2
              if on1 p then { x with coverage := e.coverageOf p, det1 := again x.det1 (s.site.pathCfg p).det1.kind }
              else if on2 p then { x with coverage := e.coverageOf p, det2 := second }
              else x }
          road := { s.road with reports := r.reports, lost := r.lost, attn := r.attn } }) ∧
        ((∀ p, (on1 p || on2 p) = false) → r = s.road))

/-- PUT_STATION, accepted: the record is stored clamped, the station's rings and flags are emptied, its seven quantities are
ABSENT with value 0, and each enabled trigger on one of them, none of which stood, is ARMED. Nothing else changes.
That the outcome of the latest wind completion becomes none is the model's choice (log 34). -/
def Obligations.PutStationRestarts : Prop :=
  ∀ (g : Byte) (w : StationId) (air surf rh : Option (Fin 9)) (wind : Option ChanId) (ca cs cr : Calibration) (k : Nat)
    (s : State), Writable s →
    (air.toList ++ surf.toList ++ rh.toList).Nodup →
    (∀ v, v ≠ w → (∀ i ∈ air.toList ++ surf.toList ++ rh.toList, (s.site.stationCfg v).airInput ≠ some i ∧
        (s.site.stationCfg v).surfInput ≠ some i ∧ (s.site.stationCfg v).rhInput ≠ some i) ∧
      ∀ ch, wind = some ch → (s.site.stationCfg v).wind ≠ some ch) →
    let onIt := fun (q : Quant) => match q with
      | .station v _ => decide (v = w)
      | .supply => false
    let within := fun (x : Calibration) =>
      ({ lo := max (-9999) (min 9999 x.lo), hi := max (-9999) (min 9999 x.hi) } : Calibration)
    (∀ n, (s.site.trigCfg n).enabled = true → onIt (s.site.trigCfg n).source = true →
      (s.site.trigger n).state ≠ .active ∧ (s.site.trigger n).state ≠ .falling) →
    let c : StationCfg :=
      { airInput := air, airCal := within ca, surfInput := surf, surfCal := within cs, rhInput := rh, rhCal := within cr
        wind := wind, k := max 100 (min 2000 k) }
    exec (.putStation g (.fits
        { index := w.val + 1, airInput := asIndex air, airCal := ca, surfInput := asIndex surf, surfCal := cs
          rhInput := asIndex rh, rhCal := cr, wind := asIndex wind, k := k })) s =
      .next (State.replied 0x15 g .ok (.stored (w.val + 1) (.station c)) { s with site := { s.site with
        cfg := { s.site.cfg with stations := s.site.cfg.stations.set w c }
        stations := s.site.stations.set w {}
        table := Vector.ofFn fun i =>
          if 7 * w.val ≤ i.val ∧ i.val < 7 * w.val + 7 then { value := 0, quality := .absent } else s.site.table[i]
        triggers := Vector.ofFn fun n =>
          if (s.site.trigCfg n).enabled && onIt (s.site.trigCfg n).source then
            { state := .armed, count := 0, latest := some { value := 0, quality := .absent } }
          else s.site.trigger n } })

/-- PUT_TRIGGER, accepted: the record is stored with levels and counts clamped, and the trigger is ARMED or DISABLED with
count 0 and no source value kept. A trigger that did not stand changes nothing else; one that stood drops its hold from every
enabled segment of its old set, and no other hold changes. That bits of the segment set which name no segment are dropped is the
model's choice (log 11). -/
def Obligations.PutTriggerRestarts : Prop :=
  ∀ (g : Byte) (k : TrigId) (en : Bool) (src : Quant) (rel : Relation) (why : Reason) (x y : Int) (a b : Nat)
    (segs : BitVec 16) (t : TemplateNo) (signs : SignSet) (s : State), Writable s →
    let range : Int × Int := match src with
      | .station _ .air | .station _ .surf | .station _ .dew => (-500, 500)
      | .station _ .rh => (0, 1000)
      | .station _ .frost => (-999, 999)
      | .station _ .wind | .station _ .gust => (0, 750)
      | .supply => (0, 3000)
    let lvl1 := max range.1 (min range.2 x)
    let lvl2 := max range.1 (min range.2 y)
    (rel = .above → lvl2 < lvl1) → (rel = .below → lvl1 < lvl2) →
    let c : TriggerCfg :=
      { enabled := en, source := src, relation := rel, setLevel := lvl1, clearLevel := lvl2
        setCount := max 1 (min 60 a), clearCount := max 1 (min 60 b), reason := why, segments := segs.setWidth 6
        template := t, signs := signs }
    let ask := exec (.putTrigger g (.fits
      { index := k.val + 1, enabled := some en, source := some src, relation := some rel, setLevel := x, clearLevel := y
        setCount := a, clearCount := b, reason := some why, segments := segs, template := t.val, signs := signs })) s
    let e : Site := { s.site with
      cfg := { s.site.cfg with triggers := s.site.cfg.triggers.set k c }
      triggers := s.site.triggers.set k { state := if en then .armed else .disabled, count := 0, latest := none } }
    let stood := (s.site.trigger k).state = .active ∨ (s.site.trigger k).state = .falling
    (¬stood → ask = .next (State.replied 0x16 g .ok (.stored (k.val + 1) (.trigger c)) { s with site := e })) ∧
    (stood → ∃ u : State, ask = .next (u.replied 0x16 g .ok (.stored (k.val + 1) (.trigger c))) ∧
      u.pending = s.pending ∧ u.site = { e with holds := u.site.holds } ∧
      ∀ n h, (u.site.hold n).has h = ((s.site.hold n).has h && !(decide (h = .trigger k) && (s.site.segCfg n).enabled &&
        hasSeg (s.site.trigCfg k).segments n)))

/-- PUT_PATH, accepted while no low width is in progress on a channel: the record is stored clamped; a trip-line found broken
is SPENT with its report, every other detector READY with no bins; the coverage of an enabled path is worked out, against
FULL if it was not enabled, and a change is reported; the wanted mask is that of a QUIET path. Nothing else changes. What a write leaves on a path that it disables or leaves disabled
(its detectors set up as on any other, coverage FULL without a report, the close option and an active mask kept) is the model's
choice (log 23). -/
def Obligations.PutPathSetsUp : Prop :=
  ∀ (g : Byte) (p : PathId) (q : PathReq) (c : PathCfg) (s : State), Writable s → q.index = p.val + 1 →
    pathOf q = some c → (s.site.path p).detection = .quiet → (s.site.path p).declared = false →
    (c.enabled = true → (s.site.segCfg c.crossing).enabled = true) →
    (∀ n, (s.site.chanCfg n).mode = .lowWidth → s.site.seenHigh n = true ∨ (s.site.chan n).continuity = .broken) →
    let torn := fun (d : Detector) => decide (d.kind = .tripline) &&
      decide ((s.site.chanCfg d.chan).mode = .lowWidth) && decide ((s.site.chan d.chan).continuity = .broken)
    let ready := fun (d : Detector) => ({ state := if torn d then .spent else .ready, bins := 0 } : DetectorRt)
    let second : DetectorRt := match c.det2 with
      | some d => ready d
      | none => { state := .ready, bins := 0 }
    let x := s.site.path p
    let before := if (s.site.pathCfg p).enabled && c.enabled then x.coverage else .full
    let e : Site := { s.site with
      cfg := { s.site.cfg with paths := s.site.cfg.paths.set p c }
      paths := s.site.paths.set p { x with
        det1 := ready c.det1
        det2 := second
        wanted := 0
        lit := if (s.site.tbCfg 3).mode = .free then false else x.lit } }
    let cov := if c.enabled then e.coverageOf p else .full
    let tell := fun (b : Bool) (k : ReportKind) (ch : ChanId) (r : Road) =>
      if b then r.report s.site k (p.val + 1) (.chan ch) else r
    exec (.putPath g (.fits q)) s = .next (State.replied 0x17 g .ok (.stored (p.val + 1) (.path c))
      { pending := s.pending
        site := { e with paths := e.paths.set p { e.path p with coverage := cov } }
        road := tell (decide (cov ≠ before)) cov.report (e.coverageChan p)
          (tell (c.det2.any torn) .triplineFoundBroken ((c.det2.map (·.chan)).getD 0)
            (tell (torn c.det1) .triplineFoundBroken c.det1.chan s.road)) })

/-- PUT_SCHEDULE, accepted, and SET_ZONE: the record or the clamped offset is stored, each entry concerned is in the state its
record, the clock and the offset give, an entry whose holds were in line with its state has them in line again, and no other
hold changes. A SET_ZONE to the same offset, and a write with the clock UNSET on an IDLE entry, change nothing else.
That bits of the segment set which name no segment are dropped is the model's choice (log 11). -/
def Obligations.ScheduleWritesRecompute : Prop :=
  (∀ (g : Byte) (n : EntryId) (q : ScheduleReq) (c : ScheduleCfg) (s : State), Writable s → q.index = n.val + 1 →
    scheduleOf q = some c →
    let e : Site := { s.site with cfg := { s.site.cfg with entries := s.site.cfg.entries.set n c } }
    let st := entryState s.site c
    (∃ u : State, exec (.putSchedule g (.fits q)) s = .next (u.replied 0x18 g .ok (.storedEntry (n.val + 1) c st)) ∧
      u.pending = s.pending ∧ u.site = { e with entries := s.site.entries.set n st, holds := u.site.holds } ∧
      (EntryInLine s.site n → EntryInLine u.site n) ∧
      (∀ i h, h ≠ .schedule n → (u.site.hold i).has h = (s.site.hold i).has h) ∧
      (s.site.clock = none → s.site.entry n = .idle → u = { s with site := e }))) ∧
  ∀ (g : Byte) (z : Int) (s : State), Writable s →
    let z' := max (-43200) (min 50400 z)
    let e : Site := { s.site with cfg := { s.site.cfg with zone := z' } }
    (z' = s.site.cfg.zone → exec (.setZone g (.fits z)) s = .next (s.replied 0x1A g .ok (.zoneOnly z'))) ∧
    ∃ u : State, exec (.setZone g (.fits z)) s = .next (u.replied 0x1A g .ok (.zoneOnly z')) ∧ u.pending = s.pending ∧
      (z' ≠ s.site.cfg.zone → u.site = { e with
        entries := Vector.ofFn fun n => entryState e (s.site.entryCfg n), holds := u.site.holds }) ∧
      ((∀ n, EntryInLine s.site n) → z' ≠ s.site.cfg.zone → ∀ n, EntryInLine u.site n) ∧
      (∀ i h, (∀ n, h ≠ .schedule n) → (u.site.hold i).has h = (s.site.hold i).has h)

/-- PUT_SUPPLY, accepted: the record is stored clamped; other thresholds zero the three counts and keep the stage; another
calibration pair empties the A9 ring, clears its flag and makes SUPPLY ABSENT, on which each enabled trigger on SUPPLY, none of
which stood, is ARMED. SET_ATTENTION stores the level and evaluates ATTN at once. Nothing else changes. -/
def Obligations.SupplyAndAttentionWrites : Prop :=
  (∀ (g : Byte) (q c : SupplyCfg) (s : State), Writable s → supplyOf q = some c →
    (∀ n, (s.site.trigCfg n).enabled = true → (s.site.trigCfg n).source = .supply →
      (s.site.trigger n).state ≠ .active ∧ (s.site.trigger n).state ≠ .falling) →
    let old := s.site.cfg.supply
    let moved := ¬(c.ecoEnter = old.ecoEnter ∧ c.ecoLeave = old.ecoLeave ∧ c.resEnter = old.resEnter ∧
      c.resLeave = old.resLeave)
    let absent : Quantity := { value := 0, quality := .absent }
    exec (.putSupply g (.fits q)) s = .next (State.replied 0x19 g .ok (.stored 0 (.supply c)) { s with site := { s.site with
      cfg := { s.site.cfg with supply := c }
      fall := if moved then 0 else s.site.fall
      deep := if moved then 0 else s.site.deep
      rise := if moved then 0 else s.site.rise
      supplyIn := if c.cal = old.cal then s.site.supplyIn else { ring := [], fault := false }
      table := if c.cal = old.cal then s.site.table else s.site.table.set 21 absent
      triggers := Vector.ofFn fun n =>
        if c.cal ≠ old.cal ∧ (s.site.trigCfg n).enabled = true ∧ (s.site.trigCfg n).source = .supply then
          { state := .armed, count := 0, latest := some absent }
        else s.site.trigger n } })) ∧
  ∀ (g : Byte) (l : ReportClass) (s : State), Writable s →
    exec (.setAttention g (.fits (some l))) s = .next (State.replied 0x1B g .ok (.stored 0 (.attention l))
      { pending := s.pending, site := { s.site with cfg := { s.site.cfg with attention := l } }
        road := { s.road with attn := s.road.reports.any fun x => l.rank ≤ x.rank } })

/-- The store requests and their completions: an accepted PUT_TEMPLATE puts its slot in WRITING with the new template, an
accepted SAVE_CONFIG takes the working configuration as it stands and puts the image in WRITING; a completion ends the
operation with VALID and STORE_DONE, or BAD or INVALID and STORE_FAULT; one with no such operation in flight does nothing. -/
def Obligations.StoreOperations : Prop :=
  (∀ (g : Byte) (n : SlotId) (lines : List (List RawItem)) (t : Template) (s : State), Writable s →
    templateOf lines = some t →
    exec (.putTemplate g (.fits { slot := n.val + 1, lines := lines })) s = .next (State.replied 0x20 g .ok
      (.templateCells (n.val + 1) (cellCount t.line1) (cellCount t.line2) (cellCount t.line3))
      { s with site := { s.site with storeOp := some (.template n) }
               road := { s.road with slots := s.road.slots.set n (.writing t) } })) ∧
  (∀ (g : Byte) (s : State), Writable s →
    exec (.saveConfig g (.fits ())) s = .next (State.replied 0x1D g .ok .none { s with site := { s.site with
      storeOp := some .config, image := { state := .writing, records := s.site.cfg, intact := false } } })) ∧
  (∀ (ok : Bool) (s : State),
    (s.site.storeOp ≠ some .config → exec (.configSaveComplete ok) s = .next s) ∧
    (s.site.storeOp = some .config →
      let e : Site := { s.site with
        storeOp := none
        image := { state := if ok then .valid else .invalid, records := s.site.image.records, intact := ok } }
      exec (.configSaveComplete ok) s = .next { s with
        site := e, road := s.road.report s.site (if ok then .storeDone else .storeFault) 0 .config })) ∧
  ∀ (ok : Bool) (s : State),
    ((∀ n, s.site.storeOp ≠ some (.template n)) → exec (.templateWriteComplete ok) s = .next s) ∧
    ∀ n t, s.site.storeOp = some (.template n) → s.road.slots[n] = .writing t →
      let r : Road := { s.road with slots := s.road.slots.set n (if ok then .valid t true else .bad) }
      (∃ u, exec (.templateWriteComplete ok) s = .next u ∧ u.site = { s.site with storeOp := none } ∧
        u.pending = s.pending ∧ (NoNotice s.site s.road → u.road.slots = r.slots)) ∧
      ((∀ h, (s.site.signCfg h).enabled = true → (pageSlot s.site s.road h).val ≠ n.val + 1) →
        exec (.templateWriteComplete ok) s = .next { s with
          site := { s.site with storeOp := none }
          road := r.report s.site (if ok then .storeDone else .storeFault) (n.val + 1) .template })

/-! ## Clock and schedule -/

/-- SET_CLOCK and the second event. SET_CLOCK answers the new value and the one before, restarts the second phase and queues
CLOCK_SET under the new value; a second event advances a set clock by one, with its wrap, and the next ends a second after it;
either brings every entry in line with the new time, and no other hold changes. Where no entry changes state, nothing else
changes; each entry that does has its SCHEDULE_STATE report queued, and where it closes no segment and none is in NOTICE, it
posts its claim on the signs that now want it and withdraws it from those that no longer do, entry by entry. The second event's
row brings the reference to its moment (the model's choice, log 3). -/
def Obligations.ClockSetAndTicks : Prop :=
  let entriesAt := fun (e : Site) => (Vector.ofFn fun n => entryState e (e.entryCfg n) : Vector SchedState 16)
  let others := fun (s u : State) => ∀ i h, (∀ n, h ≠ .schedule n) → (u.site.hold i).has h = (s.site.hold i).has h
  let follows := fun (s : State) (e : Site) (u : State) =>
    (∀ n, entryState e (e.entryCfg n) ≠ s.site.entry n → u.road.lost = true ∨
      { kind := .scheduleState, subject := n.val + 1, value := .sched (entryState e (e.entryCfg n)), stamp := e.clock } ∈
        u.road.reports) ∧
    (NoNotice s.site s.road →
      (∀ n, entryState e (e.entryCfg n) ≠ s.site.entry n → (e.entryCfg n).segments = 0) →
      ∀ h : SignId, (u.road.sign h).claims = (List.finRange 16).foldl (fun l n =>
        let c := e.entryCfg n
        let wants := fun (st : SchedState) => (st == .lead || st == .closing) && c.template != 0 && c.signs.getLsbD h
        let now := wants (entryState e c)
        let before := wants (s.site.entry n)
        if now && !before then (postedList { source := .schedule n, cls := .schedule, template := c.template } l).1
        else if before && !now then l.filter (·.source != .schedule n) else l) (s.road.sign h).claims)
  (∀ (g : Byte) (v : ClockValue) (s : State), Ready s →
    let e : Site := { s.site with clock := some v, secondEnd := some (s.site.now + 1000000) }
    ∃ u : State, exec (.setClock g (.fits v)) s = .next (u.replied 0x02 g .ok (.clockSet v s.site.clock)) ∧
      u.pending = s.pending ∧ u.site = { e with entries := entriesAt e, holds := u.site.holds } ∧
      ((∀ n, EntryInLine s.site n) → ∀ n, EntryInLine u.site n) ∧ others s u ∧ follows s e u ∧
      (entriesAt e = s.site.entries → u.site.holds = s.site.holds ∧ u.road = s.road.report e .clockSet 0 (.clock v))) ∧
  (∀ s : State, s.site.clock = none → exec .secondEvent s = .next s) ∧
  ∀ (s : State) (v : ClockValue), s.site.clock = some v →
    let now := match s.site.secondEnd with
      | some t => max s.site.now t
      | none => s.site.now
    let e : Site := { s.site with
      now := now, clock := some (if v = 4294967295#32 then 0#32 else v + 1#32), secondEnd := some (s.site.secondEnd.getD now + 1000000) }
    (s.site.phase ≠ .running → exec .secondEvent s = .next { s with site := e }) ∧
    (s.site.phase = .running → ∃ u : State, exec .secondEvent s = .next u ∧
      u.pending = s.pending ∧ u.site = { e with entries := entriesAt e, holds := u.site.holds } ∧
      ((∀ n, EntryInLine s.site n) → ∀ n, EntryInLine u.site n) ∧ others s u ∧ follows s e u ∧
      (entriesAt e = s.site.entries → u = { s with site := e }))

/-- The state of an entry as a function of the clock: after SET_CLOCK each enabled entry is in the state of the table for its
kind and each other is IDLE; with the clock UNSET an accepted PUT_SCHEDULE leaves its entry IDLE. That the stored segment set drops
bits that name no segment is the model's reading (log 11). -/
def Obligations.EntryStatesFollowClock : Prop :=
  let tableOf := fun (c : ScheduleCfg) (zone : Int) (clock : Nat) =>
    match c.kind with
    | .once =>
      if c.openTime ≤ clock then SchedState.ended
      else if c.closeTime ≤ clock then .closing
      else if c.closeTime ≤ clock + c.lead then .lead
      else .idle
    | .daily =>
      let l : Int := ((clock : Int) + zone) % 86400
      let d : Int := (l - c.closeTime) % 86400
      let w : Int := ((c.openTime : Int) - c.closeTime) % 86400
      if d < w then .closing else if 86400 - d ≤ c.lead then .lead else .idle
  (∀ (g : Byte) (v : ClockValue) (s : State), Ready s →
    ∃ u : State, exec (.setClock g (.fits v)) s = .next (u.replied 0x02 g .ok (.clockSet v s.site.clock)) ∧
      ∀ n, u.site.entry n =
        if (s.site.entryCfg n).enabled then tableOf (s.site.entryCfg n) s.site.cfg.zone v.toNat else .idle) ∧
  ∀ (g : Byte) (n : EntryId) (q : ScheduleReq) (c : ScheduleCfg) (s : State), Writable s → q.index = n.val + 1 →
    scheduleOf q = some c → s.site.clock = none →
    ∃ u : State, exec (.putSchedule g (.fits q)) s = .next (u.replied 0x18 g .ok (.storedEntry (n.val + 1) c .idle)) ∧
      u.site.entry n = .idle

/-! ## Segments and passes -/

/-- CLOSE_SEGMENT and RELEASE_SEGMENT put OPERATOR into, or take OPERATOR and RESTART out of, the hold set of an enabled segment
and answer its state; REOPEN_SEGMENT is refused on one not CLOSED or held. A change that the segment's state does not act on
leaves Road as it was; a segment without guard gates and notice set goes NOTICE and CLEARING, or REOPENING and OPEN, with a
report of each. With no segment in NOTICE and no gate queued, a segment that leaves OPEN posts its closure claim on its notice
set, one that comes back to OPEN withdraws it, and no other claim changes. -/
def Obligations.SegmentRequestsAct : Prop :=
  ∀ (g : Byte) (n : SegId) (s : State), Ready s →
    let x := s.road.segment n
    let c := s.site.segCfg n
    let h := s.site.hold n
    let plain := (∀ y, (s.site.gateCfg y).enabled = true → (s.site.gateCfg y).guarded ≠ n) ∧ c.noticeSet = 0 ∧
      s.road.queue = []
    let told := fun (st : SegState) (r : Road) => r.report s.site .segmentState (n.val + 1) (.segState st)
    let put := fun (y : Segment) => ({ s.road with segments := s.road.segments.set n y } : Road)
    let clearing : Segment :=
      { x with state := .clearing, noticeTimer := none, sweepTimer := some (s.site.now + c.sweepTime * 1000000) }
    let opened : Segment :=
      { state := .open, noticeTimer := none, sweepTimer := none, unguarded := false, noticeIncomplete := false }
    let reopens := (x.state = .closed ∧ c.reopenMode = .automatic) ∨ x.state = .notice
    let reopen := exec (.reopenSegment g (.fits (n.val + 1))) s
    let still := NoNotice s.site s.road ∧ s.road.queue = []
    let leaves := fun (u : State) => ∀ z : SignId, (u.road.sign z).claims =
      if x.state = .closed ∧ (u.road.segment n).state = .open ∧ c.noticeSet.getLsbD z = true then
        (s.road.sign z).claims.filter (·.source != .segment n)
      else (s.road.sign z).claims
    (c.enabled = false → exec (.closeSegment g (.fits (n.val + 1))) s = .next (s.replied 0x30 g .notEnabled .none) ∧
      exec (.releaseSegment g (.fits (n.val + 1))) s = .next (s.replied 0x31 g .notEnabled .none) ∧
      reopen = .next (s.replied 0x32 g .notEnabled .none)) ∧
    (c.enabled = true → x.state ≠ .closed → reopen = .next (s.replied 0x32 g .inUse .none)) ∧
    (c.enabled = true → x.state = .closed → h ≠ {} → reopen = .next (s.replied 0x32 g .held .none)) ∧
    (c.enabled = true → x.state = .closed → h = {} →
      ∃ u : State, reopen = .next (u.replied 0x32 g .ok .none) ∧ u.pending = s.pending ∧ u.site = s.site ∧
        (plain → u.road = told .open (told .reopening (put opened))) ∧ (still → leaves u)) ∧
    (c.enabled = true →
      (∃ u : State, exec (.closeSegment g (.fits (n.val + 1))) s =
          .next (u.replied 0x30 g .ok (.segState (u.road.segment n).state)) ∧ u.pending = s.pending ∧
        u.site = { s.site with holds := s.site.holds.set n { h with operator := true } } ∧
        (h.operator = true ∨ x.state = .notice ∨ x.state = .clearing ∨ x.state = .closed → u.road = s.road) ∧
        (h.operator = false → plain → 0 < c.sweepTime →
          (x.state = .open → u.road = told .clearing (told .notice (put clearing))) ∧
          (x.state = .reopening → u.road = told .clearing (put clearing))) ∧
        (h.operator = false → x.state = .open → still → ∀ z : SignId, (u.road.sign z).claims =
          if c.noticeSet.getLsbD z then
            (postedList { source := .segment n, cls := .closure, template := c.closureTemplate } (s.road.sign z).claims).1
          else (s.road.sign z).claims)) ∧
      ∃ u : State, exec (.releaseSegment g (.fits (n.val + 1))) s =
          .next (u.replied 0x31 g .ok (.segState (u.road.segment n).state)) ∧ u.pending = s.pending ∧
        u.site = { s.site with holds := s.site.holds.set n { h with operator := false, restart := false } } ∧
        ((h.operator = false ∧ h.restart = false) ∨ u.site.hold n ≠ {} ∨ ¬reopens → u.road = s.road) ∧
        (h.operator = true ∨ h.restart = true → u.site.hold n = {} → plain → reopens →
          u.road = told .open (told .reopening (put opened))) ∧
        (still → leaves u))

/-- SERVICE_PASS, with its four refusals in order, and the expiry of a pass. A pass on a gate that is UP runs at once; one on a
gate already targeted UP waits; one on a gate that is DOWN waits while the gate, granted a permit, starts to raise. An expiry
ends the pass with PASS_ENDED and targets the gate DOWN; without a RUNNING pass it does nothing. That row brings the reference
to its expiry (the model's choice, log 3). -/
def Obligations.ServicePasses : Prop :=
  (∀ (g : Byte) (x : GateId) (seconds : Nat) (s : State), Ready s →
    let c := s.site.gateCfg x
    let y := s.road.gate x
    let d := max 30 (min 600 seconds)
    let ask := exec (.servicePass g (.fits { gate := x.val + 1, duration := seconds })) s
    let refused := fun (code : ResultCode) => ask = .next (s.replied 0x33 g code .none)
    let granted := fun (r : Road) => ask = .next (State.replied 0x33 g .ok (.duration d) { s with road := r })
    (c.enabled = false → refused .notEnabled) ∧
    (c.enabled = true → (s.road.segment c.guarded).state ≠ .closed → refused .inUse) ∧
    (c.enabled = true → (s.road.segment c.guarded).state = .closed →
      ((∃ p, (s.site.hold c.guarded).has (.path p) = true) → refused .held) ∧
      ((∀ p, (s.site.hold c.guarded).has (.path p) = false) →
        (y.state = .faulted → refused .inUse) ∧
        (y.state ≠ .faulted → ∃ r : Road, granted r) ∧
        (y.state = .up →
          granted { s.road with passes := s.road.passes.set x (.running d (s.site.now + d * 1000000)) }) ∧
        (y.state ≠ .faulted → y.state ≠ .up → y.target = some .up → s.road.queue = [] →
          granted { s.road with passes := s.road.passes.set x (.waiting d) }) ∧
        (y.state = .down → y.target = some .down → y.upLimit = false → y.trip = false → s.road.queue = [] →
          s.road.holders < s.site.stage.permits →
          granted { s.road with
            passes := s.road.passes.set x (.waiting d)
            gates := s.road.gates.set x (motionStarted s.site x .up { y with target := some .up }) })))) ∧
  ∀ (x : GateId) (s : State),
    ((∀ d t, s.road.pass x ≠ .running d t) → exec (.passTimerExpiry x) s = .next s) ∧
    ∀ d t, s.road.pass x = .running d t →
      let y := s.road.gate x
      let e : Site := { s.site with now := max s.site.now t }
      let ended := fun (r : Road) => Road.report s.site .passEnded (x.val + 1) (.passEnd .expiry)
        { r with passes := s.road.passes.set x .idle }
      (∃ r : Road, exec (.passTimerExpiry x) s = .next { s with site := e, road := r }) ∧
      (y.target = some .down → s.road.queue = [] →
        exec (.passTimerExpiry x) s = .next { s with site := e, road := ended s.road }) ∧
      (y.target ≠ some .down → y.state = .up → y.permit = false → NoGrant s.site s.road →
        exec (.passTimerExpiry x) s = .next { s with site := e, road := ended { s.road with
          queue := s.road.queue.filter (· ≠ x) ++ [x]
          gates := s.road.gates.set x
            { y with
              state := .waitLower, target := some .down, permit := false, duty := 0, driven := 0, dutyAt := 0, travelTimer := none
              pauseTimer := none, holdOffTimer := none, retryTimer := none, displaceTimer := none, rampTimer := none } } })

/-- RESET_GATE_FAULT is refused on a gate that is not enabled or not FAULTED; otherwise it clears the fault cause and the retry
count and answers the state the gate goes on to from its limits: the rest state of its target, queued toward the target, or
FAULTED again with both limits active. -/
def Obligations.ResetGateFaultActs : Prop :=
  ∀ (g : Byte) (x : GateId) (s : State), Ready s →
    let c := s.site.gateCfg x
    let y := s.road.gate x
    let ask := exec (.resetGateFault g (.fits (x.val + 1))) s
    let z : Gate :=
      { y with
        fault := none, retryCount := 0, permit := false, duty := 0, driven := 0, dutyAt := 0, travelTimer := none, pauseTimer := none
        holdOffTimer := none, retryTimer := none, displaceTimer := none, rampTimer := none }
    let leaves := fun (r : Road) (y' : Gate) =>
      ask = .next (State.replied 0x34 g .ok (.gateState y'.state)
        { s with road := { r with gates := s.road.gates.set x y' } })
    (c.enabled = false → ask = .next (s.replied 0x34 g .notEnabled .none)) ∧
    (c.enabled = true → y.state ≠ .faulted → ask = .next (s.replied 0x34 g .inUse .none)) ∧
    (c.enabled = true → y.state = .faulted →
      (∃ u : State, ask = .next (u.replied 0x34 g .ok (.gateState (u.road.gate x).state)) ∧ u.pending = s.pending ∧
        u.site = s.site) ∧
      (y.upLimit = true → y.downLimit = false → y.target = some .up → s.road.queue = [] → s.road.pass x = .idle →
        (s.road.segment c.guarded).state ≠ .reopening → leaves s.road { z with state := .up }) ∧
      (y.upLimit = false → y.downLimit = true → y.target = some .down → s.road.queue = [] →
        (s.road.segment c.guarded).state ≠ .clearing → leaves s.road { z with state := .down }) ∧
      (y.upLimit = false → y.downLimit = false → y.permit = false → NoGrant s.site s.road →
        (y.target = some .up →
          leaves { s.road with queue := s.road.queue.filter (· ≠ x) ++ [x] } { z with state := .waitRaise }) ∧
        (y.target = some .down →
          leaves { s.road with queue := s.road.queue.filter (· ≠ x) ++ [x] } { z with state := .waitLower })) ∧
      (y.upLimit = true → y.downLimit = true → s.road.queue = [] → FaultUnheard s.site s.road x →
        leaves (s.road.report s.site .gateFault (x.val + 1) (.fault .limitConflict))
          { z with state := .faulted, fault := some .limitConflict }))

/-! ## Paths and notices by request -/

/-- DECLARE_HAZARD and CLEAR_PATH, refused on a path that is not enabled. A declaration is stored with its option and its
HAZARD(p) hold follows the option; a repeat changes nothing. CLEAR_PATH leaves the path QUIET, undeclared and without its
holds, and queues PATH_CLEARED last where there was something to clear. The wanted mask follows; no other hold changes. With no
segment in NOTICE and no gate queued, a QUIET path that is declared posts its HAZARD claim on its signs, after the closure claim
of an OPEN crossing segment that it closes; CLEAR_PATH withdraws the path's claim, and the closure claim where the segment comes
back to OPEN; and no other claim changes. That the reply to DECLARE_HAZARD is the detection state alone is the model's choice
(log 31). -/
def Obligations.HazardAndClearPath : Prop :=
  (∀ (g : Byte) (p : PathId) (b : Bool) (s : State), Ready s →
    let c := s.site.pathCfg p
    let x := s.site.path p
    let ask := exec (.declareHazard g (.fits { path := p.val + 1, close := some b })) s
    let mask : BitVec 8 :=
      if c.beaconEnabled then beaconMask (if x.detection = .quiet then .slow else .fast) c.beaconPhase s.site.stage else 0
    (c.enabled = false → ask = .next (s.replied 0x35 g .notEnabled .none)) ∧
    (c.enabled = true → x.declared = true → x.closeOption = b →
      ask = .next (s.replied 0x35 g .ok (.detection x.detection))) ∧
    (c.enabled = true → ¬(x.declared = true ∧ x.closeOption = b) →
      ∃ u : State, ask = .next (u.replied 0x35 g .ok (.detection x.detection)) ∧ u.pending = s.pending ∧
        u.site = { s.site with
          paths := s.site.paths.set p { x with
            declared := true, closeOption := b, wanted := mask
            lit := if (s.site.tbCfg 3).mode = .free then mask != 0 else x.lit }
          holds := u.site.holds } ∧
        (∀ i h, (u.site.hold i).has h =
          if h = .hazard p ∧ i = c.crossing ∧ (s.site.segCfg i).enabled = true ∧ (b = true ∨ (x.declared && x.closeOption) = true)
          then b else (s.site.hold i).has h) ∧
        (b = false → x.declared = false → c.signs = 0 →
          u.road = s.road.report s.site .hazardDeclared (p.val + 1) (.close false)) ∧
        (x.declared = false → NoNotice s.site s.road → s.road.queue = [] →
          let w := s.site.segCfg c.crossing
          (b = false ∨ (w.enabled = true ∧ (s.road.segment c.crossing).state = .open ∧
            (s.site.hold c.crossing).has (.hazard p) = false)) →
          ∀ h : SignId,
            let before := (s.road.sign h).claims
            let closed := if b = true ∧ w.noticeSet.getLsbD h = true then
                (postedList { source := .segment c.crossing, cls := .closure, template := w.closureTemplate } before).1
              else before
            (u.road.sign h).claims =
              if x.detection = .quiet ∧ c.signs.getLsbD h = true then
                (postedList { source := .path p, cls := .hazard, template := c.hazardTemplate } closed).1
              else closed))) ∧
  ∀ (g : Byte) (p : PathId) (s : State), Ready s →
    let c := s.site.pathCfg p
    let x := s.site.path p
    let ask := exec (.clearPath g (.fits (p.val + 1))) s
    (c.enabled = false → ask = .next (s.replied 0x36 g .notEnabled .none)) ∧
    (c.enabled = true →
      ∃ u : State, ask = .next (u.replied 0x36 g .ok .none) ∧ u.pending = s.pending ∧
        u.site = { s.site with paths := s.site.paths.set p (u.site.path p), holds := u.site.holds } ∧
        (let y := u.site.path p
         y.detection = .quiet ∧ y.declared = false ∧ y.confirmTimer = none ∧ y.wanted = 0 ∧ y.coverage = u.site.coverageOf p ∧
         y.det1.state ≠ .fired ∧ (c.det2.isSome = true → y.det2.state ≠ .fired)) ∧
        (∀ i h, (u.site.hold i).has h =
          ((s.site.hold i).has h && !(decide (i = c.crossing) && (s.site.segCfg i).enabled &&
            ((decide (h = .path p) && decide (x.detection = .released)) ||
              (decide (h = .hazard p) && x.declared && x.closeOption))))) ∧
        (x.detection ≠ .quiet ∨ x.declared = true →
          ∃ r : Road, u.road = r.report s.site .pathCleared (p.val + 1) (.detection x.detection)) ∧
        (x.detection = .quiet → x.declared = false → x.coverage = u.site.coverageOf p → x.det1.state ≠ .fired →
          x.det2.state ≠ .fired → u.road = s.road) ∧
        (NoNotice s.site s.road → s.road.queue = [] → ∀ h : SignId,
          let mine := decide (x.detection ≠ .quiet ∨ x.declared = true) && c.signs.getLsbD h
          let reopened := decide ((s.road.segment c.crossing).state = .closed ∧ (u.road.segment c.crossing).state = .open) &&
            (s.site.segCfg c.crossing).noticeSet.getLsbD h
          (u.road.sign h).claims = (s.road.sign h).claims.filter fun z =>
            !(mine && z.source == .path p) && !(reopened && z.source == .segment c.crossing)))

/-- POST_NOTICE posts the OPERATOR claim on each sign of the set by the rule of the full list and withdraws it from the signs
of the slot's former set alone; WITHDRAW_NOTICE withdraws it from the slot's set. The record is stored or emptied, POST_NOTICE
answers the signs that hold the claim, and no segment, gate, pass or queue changes while no segment is in NOTICE. -/
def Obligations.OperatorNotices : Prop :=
  let setOf := fun (x : Option Notice) => match x with
    | some y => y.signs
    | none => 0
  let still := fun (a b : Road) => b = { a with
    signs := b.signs, heads := b.heads, link := b.link, stamps := b.stamps, slots := b.slots, reports := b.reports
    lost := b.lost, attn := b.attn }
  (∀ (g : Byte) (n : NoticeId) (signs : SignSet) (t : TemplateNo) (s : State), Ready s →
    let old := setOf s.site.notices[n]
    ∃ (u : State) (w : SignSet), exec (.postNotice g (.fits { slot := n.val + 1, signs := signs, template := t.val })) s =
        .next (u.replied 0x37 g .ok (.signs w)) ∧ u.pending = s.pending ∧
      u.site = { s.site with notices := s.site.notices.set n (some { signs := signs, template := t }) } ∧
      (∀ h : SignId, w.getLsbD h = (signs.getLsbD h && (u.road.sign h).claims.any fun x => x.source == .operator n)) ∧
      (NoNotice s.site s.road → still s.road u.road ∧
        ∀ h : SignId, (u.road.sign h).claims =
          if signs.getLsbD h then
            (postedList { source := .operator n, cls := .operator, template := t } (s.road.sign h).claims).1
          else if old.getLsbD h then (s.road.sign h).claims.filter (·.source != .operator n)
          else (s.road.sign h).claims)) ∧
  ∀ (g : Byte) (n : NoticeId) (s : State), Ready s →
    let old := setOf s.site.notices[n]
    ∃ u : State, exec (.withdrawNotice g (.fits (n.val + 1))) s = .next (u.replied 0x38 g .ok .none) ∧
      u.pending = s.pending ∧ u.site = { s.site with notices := s.site.notices.set n none } ∧
      (old = 0 → u.road = s.road) ∧
      (NoNotice s.site s.road → still s.road u.road ∧
        ∀ h : SignId, (u.road.sign h).claims =
          if old.getLsbD h then (s.road.sign h).claims.filter (·.source != .operator n) else (s.road.sign h).claims)

/-! ## Gate inputs and gate timers -/

/-- LIMIT_SWITCH_CHANGE takes both levels and changes no other state of the site. The same levels change nothing; outside
RUNNING and on a FAULTED gate only the pins change; a gate that is not enabled follows its limits; both limits active make an
enabled gate FAULTED; a gate that reaches its limit in motion, or while waiting, BLOCKED or TRIPPED toward it, enters the rest
state with retry count 0; a gate at rest with its target starts or stops its displacement timer.
That outside RUNNING only the pins change is the model's choice (log 24). -/
def Obligations.LimitSwitchChanges : Prop :=
  ∀ (x : GateId) (up down : Bool) (s : State),
    let y := s.road.gate x
    let c := s.site.gateCfg x
    let seg := (s.road.segment c.guarded).state
    let act := exec (.limitSwitchChange x up down) s
    let z : Gate := { y with upLimit := up, downLimit := down }
    let still : Gate :=
      { z with
        permit := false, duty := 0, driven := 0, dutyAt := 0, travelTimer := none, pauseTimer := none, holdOffTimer := none, retryTimer := none
        displaceTimer := none, rampTimer := none }
    let leaves := fun (r : Road) (g : Gate) => act = .next { s with road := { r with gates := s.road.gates.set x g } }
    let off : Road := { s.road with queue := [] }
    let live := s.site.phase = .running ∧ c.enabled = true ∧ ¬(y.upLimit = up ∧ y.downLimit = down)
    (∃ r : Road, act = .next { s with road := r }) ∧
    (y.upLimit = up → y.downLimit = down → act = .next s) ∧
    (s.site.phase ≠ .running → leaves s.road z) ∧
    (s.site.phase = .running → c.enabled = false → ¬(y.upLimit = up ∧ y.downLimit = down) →
      leaves s.road { z with state := if up && !down then .up else if down && !up then .down else .unknown }) ∧
    (live → y.state = .faulted → leaves s.road z) ∧
    (live → y.state ≠ .faulted → up = true → down = true → OnlyQueued s.road x → FaultUnheard s.site s.road x →
      leaves (off.report s.site .gateFault (x.val + 1) (.fault .limitConflict))
        { still with state := .faulted, fault := some .limitConflict }) ∧
    (live → up = false → down = true → y.downLimit = false →
      (y.state = .lowering ∨ (y.target = some .down ∧ (y.state = .waitLower ∨ y.state = .blocked ∨ y.state = .tripped))) →
      OnlyQueued s.road x → seg ≠ .clearing → leaves off { still with state := .down, retryCount := 0 }) ∧
    (live → up = true → down = false → y.upLimit = false →
      (y.state = .raising ∨ (y.target = some .up ∧ (y.state = .waitRaise ∨ y.state = .tripped))) →
      OnlyQueued s.road x → s.road.pass x = .idle → seg ≠ .reopening →
        leaves off { still with state := .up, retryCount := 0 }) ∧
    (live → ¬(up = true ∧ down = true) → y.state = .down → y.target = some .down →
      leaves s.road { z with
        displaceTimer :=
          if down then none else if y.downLimit then some (s.site.now + 1000000) else y.displaceTimer }) ∧
    (live → ¬(up = true ∧ down = true) → y.state = .up → y.target = some .up →
      leaves s.road { z with
        displaceTimer := if up then none else if y.upLimit then some (s.site.now + 1000000) else y.displaceTimer }) ∧
    (live → ¬(up = true ∧ down = true) →
      (y.state = .unknown ∨ y.state = .paused ∨ (y.state = .lowering ∧ down = false) ∨ (y.state = .raising ∧ up = false)) →
      leaves s.road z)

/-- PRESENCE_CHANGE and HOLD_OFF_EXPIRY. The input stops a LOWERING gate, which enters BLOCKED with its report and gives up its
permit; while BLOCKED it stops the hold-off timer when active and starts 3 s when it goes inactive; a gate waiting to lower
alone starts when it goes inactive and a permit is free, and with one permit left for several queued gates the first of them
that waits to lower and is not obstructed starts; otherwise only the level changes. The expiry queues the gate to lower, and
does nothing on a gate that is not BLOCKED. The model's choices: the expiry brings the reference to its moment (log 3), and
outside RUNNING only the level changes (log 24). -/
def Obligations.PresenceAndHoldOff : Prop :=
  (∀ (x : GateId) (b : Bool) (s : State),
    let y := s.road.gate x
    let c := s.site.gateCfg x
    let act := exec (.presenceChange x b) s
    let z : Gate := { y with presence := b }
    let still : Gate :=
      { z with
        permit := false, duty := 0, driven := 0, dutyAt := 0, travelTimer := none, pauseTimer := none, holdOffTimer := none, retryTimer := none
        displaceTimer := none, rampTimer := none }
    let leaves := fun (r : Road) (g : Gate) => act = .next { s with road := { r with gates := s.road.gates.set x g } }
    let live := y.presence ≠ b ∧ s.site.phase = .running ∧ c.enabled = true ∧ c.presenceUsed = true
    let kind : ReportKind :=
      if ∃ p, (s.site.hold c.guarded).has (.path p) = true then .gateObstructedAvalanche else .gateObstructed
    (∃ r : Road, act = .next { s with road := r }) ∧
    (¬live → leaves s.road z) ∧
    (live → b = true → y.state = .lowering → s.road.queue = [] →
      leaves (s.road.report s.site kind (x.val + 1) (.segment c.guarded)) { still with state := .blocked }) ∧
    (live → y.state = .blocked →
      leaves s.road { z with holdOffTimer := if b then none else some (s.site.now + 3000000) }) ∧
    (live → b = false → y.state = .waitLower → y.downLimit = false → y.trip = false → s.road.queue = [x] →
      s.road.holders < s.site.stage.permits →
      leaves { s.road with queue := [] } (motionStarted s.site x .down z)) ∧
    (live → b = false → y.state = .waitLower → s.road.holders + 1 = s.site.stage.permits →
      let after := fun (q : GateId) => if q = x then z else s.road.gate q
      ∀ w, s.road.queue.find? (fun q =>
          (after q).state == .waitLower && !((s.site.gateCfg q).presenceUsed && (after q).presence)) = some w →
        (after w).permit = false → (after w).trip = false → (after w).downLimit = false →
        act = .next { s with road := { s.road with
          queue := s.road.queue.filter (· ≠ w)
          gates := (s.road.gates.set x z).set w (motionStarted s.site w .down (after w)) } }) ∧
    (live → ¬(b = true ∧ y.state = .lowering) → y.state ≠ .blocked → ¬(b = false ∧ y.state = .waitLower) →
      leaves s.road z)) ∧
  ∀ (x : GateId) (s : State),
    let y := s.road.gate x
    let act := exec (.holdOffExpiry x) s
    let e : Site := { s.site with now := max s.site.now (y.holdOffTimer.getD s.site.now) }
    (∃ r : Road, act = .next { s with site := e, road := r }) ∧
    (¬(y.state = .blocked ∧ y.holdOffTimer.isSome) → act = .next { s with site := e }) ∧
    (y.state = .blocked → y.holdOffTimer.isSome → y.permit = false → NoGrant s.site s.road →
      let z : Gate :=
        { y with
          state := .waitLower, duty := 0, driven := 0, dutyAt := 0, travelTimer := none, pauseTimer := none, holdOffTimer := none, retryTimer := none
          displaceTimer := none, rampTimer := none }
      act = .next { s with
        site := e
        road := { s.road with queue := s.road.queue.filter (· ≠ x) ++ [x], gates := s.road.gates.set x z } })

/-- DRIVER_TRIP and RETRY_DELAY_EXPIRY. An active trip input turns a moving gate TRIPPED with its report of the retry count, 5 s
of retry delay and no permit; otherwise only the level changes. The expiry, on a gate between its limits, counts a retry and
queues it toward its target, or with no retry left makes it FAULTED with DRIVE_TRIP; when it queues the gate to raise with one
permit left, that permit goes to the first gate that waits to lower and is not obstructed, else to the first that waits to
raise. The model's choices: that row brings the reference to its expiry (log 3), and outside RUNNING a trip input changes its
level alone (log 24). -/
def Obligations.TripAndRetry : Prop :=
  (∀ (x : GateId) (b : Bool) (s : State),
    let y := s.road.gate x
    let act := exec (.driverTrip x b) s
    let pinned : Gate := { y with trip := b }
    let live := s.site.phase = .running ∧ (s.site.gateCfg x).enabled = true ∧ b = true ∧
      (y.state = .lowering ∨ y.state = .raising)
    let z : Gate :=
      { y with
        trip := b, state := .tripped, permit := false, duty := 0, driven := 0, dutyAt := 0, travelTimer := none, pauseTimer := none
        holdOffTimer := none, retryTimer := some (s.site.now + 5000000), displaceTimer := none, rampTimer := none }
    (∃ r : Road, act = .next { s with road := r }) ∧
    (¬live → act = .next { s with road := { s.road with gates := s.road.gates.set x pinned } }) ∧
    (live → s.road.queue = [] →
      act = .next { s with
        road := Road.report s.site .gateTripped (x.val + 1) (.number y.retryCount)
          { s.road with gates := s.road.gates.set x z } })) ∧
  ∀ (x : GateId) (s : State),
    let y := s.road.gate x
    let act := exec (.retryDelayExpiry x) s
    let e : Site := { s.site with now := max s.site.now (y.retryTimer.getD s.site.now) }
    let z : Gate :=
      { y with
        permit := false, duty := 0, driven := 0, dutyAt := 0, travelTimer := none, pauseTimer := none, holdOffTimer := none, retryTimer := none
        displaceTimer := none, rampTimer := none }
    let live := y.state = .tripped ∧ y.retryTimer.isSome = true
    let retries := (s.site.gateCfg x).retries
    let again := fun (st : GateState) => act = .next { s with
      site := e
      road := { s.road with
        queue := s.road.queue.filter (· ≠ x) ++ [x]
        gates := s.road.gates.set x { z with state := st, retryCount := y.retryCount + 1 } } }
    (∃ r : Road, act = .next { s with site := e, road := r }) ∧
    (¬live → act = .next { s with site := e }) ∧
    (live → y.retryCount < retries → y.upLimit = false → y.downLimit = false → y.permit = false → NoGrant s.site s.road →
      (y.target = some .down → again .waitLower) ∧ (y.target = some .up → again .waitRaise)) ∧
    (live → y.retryCount < retries → y.upLimit = false → y.downLimit = false → y.permit = false → y.target = some .up →
      s.road.holders + 1 = s.site.stage.permits →
      let z' : Gate := { z with state := .waitRaise, retryCount := y.retryCount + 1 }
      let after := fun (q : GateId) => if q = x then z' else s.road.gate q
      let queue := s.road.queue.filter (· ≠ x) ++ [x]
      let lowers := queue.find? fun q =>
        (after q).state == .waitLower && !((s.site.gateCfg q).presenceUsed && (after q).presence)
      let raises := queue.find? fun q => (after q).state == .waitRaise
      ∀ w d, ((d = .down ∧ lowers = some w) ∨ (d = .up ∧ lowers = none ∧ raises = some w)) →
        (after w).permit = false → (after w).trip = false → (after w).limit d = false →
        act = .next { s with
          site := e
          road := { s.road with
            queue := queue.filter (· ≠ w)
            gates := (s.road.gates.set x z').set w (motionStarted e w d (after w)) } }) ∧
    (live → retries ≤ y.retryCount → FaultUnheard s.site s.road x →
      act = .next { s with
        site := e
        road := Road.report s.site .gateFault (x.val + 1) (.fault .driveTrip) { s.road with
          queue := s.road.queue.filter (· ≠ x)
          gates := s.road.gates.set x { z with state := .faulted, fault := some .driveTrip } } })

/-- TRAVEL_TIMEOUT, PAUSE_EXPIRY, DISPLACEMENT_EXPIRY and RAMP_STEP. A timer that is stopped, or a gate in another state, does
nothing. A moving gate whose travel time runs out is FAULTED; a paused gate goes on toward its target with the permit it kept,
or rests at that limit, or is BLOCKED; a displaced gate is reported and queued back; a ramp step writes a duty nearer by 5 to
the buffer, which the bridge takes at the start of the next PWM period. The bridge drives side A of a lowering and side B of a
raising gate for the duty in force, in counts of 250. The model's choices: each row brings the reference to its expiry (log 3),
and the phase of the PWM periods is free (log 33). -/
def Obligations.GateTimersExpire : Prop :=
  ∀ (x : GateId) (s : State),
    let y := s.road.gate x
    let c := s.site.gateCfg x
    let seg := (s.road.segment c.guarded).state
    let at_ := fun (t : Option Nat) => ({ s.site with now := max s.site.now (t.getD s.site.now) } : Site)
    let z : Gate :=
      { y with
        permit := false, duty := 0, driven := 0, dutyAt := 0, travelTimer := none, pauseTimer := none, holdOffTimer := none, retryTimer := none
        displaceTimer := none, rampTimer := none }
    let off : Road := { s.road with queue := [] }
    let moving := y.state = .lowering ∨ y.state = .raising
    let blockedKind : ReportKind :=
      if ∃ p, (s.site.hold c.guarded).has (.path p) = true then .gateObstructedAvalanche else .gateObstructed
    (¬(moving ∧ y.travelTimer.isSome) → exec (.travelTimeout x) s = .next { s with site := at_ y.travelTimer }) ∧
    (moving → y.travelTimer.isSome → OnlyQueued s.road x → FaultUnheard s.site s.road x →
      exec (.travelTimeout x) s = .next { s with
        site := at_ y.travelTimer
        road := { (off.report s.site .gateFault (x.val + 1) (.fault .travelTimeout)) with
          gates := s.road.gates.set x { z with state := .faulted, fault := some .travelTimeout } } }) ∧
    (¬(y.state = .paused ∧ y.pauseTimer.isSome) → exec (.pauseExpiry x) s = .next { s with site := at_ y.pauseTimer }) ∧
    (∀ d, y.state = .paused → y.pauseTimer.isSome → y.target = some d → OnlyQueued s.road x →
      let e := at_ y.pauseTimer
      let leaves := fun (r : Road) (g : Gate) =>
        exec (.pauseExpiry x) s = .next { s with site := e, road := { r with gates := s.road.gates.set x g } }
      (d = .down → y.downLimit = true → seg ≠ .clearing → leaves off { z with state := .down, retryCount := 0 }) ∧
      (d = .up → y.upLimit = true → s.road.pass x = .idle → seg ≠ .reopening →
        leaves off { z with state := .up, retryCount := 0 }) ∧
      (d = .down → y.downLimit = false → c.presenceUsed = true → y.presence = true → s.road.queue = [] →
        leaves (s.road.report s.site blockedKind (x.val + 1) (.segment c.guarded)) { z with state := .blocked }) ∧
      (¬(d = .down ∧ c.presenceUsed = true ∧ y.presence = true) → (d = .down → y.downLimit = false) →
        (d = .up → y.upLimit = false) → y.trip = false →
        leaves off { motionStarted e x d z with permit := y.permit })) ∧
    (¬((y.state = .down ∨ y.state = .up) ∧ y.displaceTimer.isSome) →
      exec (.displacementExpiry x) s = .next { s with site := at_ y.displaceTimer }) ∧
    (∀ d, y.state = (if d = .down then .down else .up) → y.displaceTimer.isSome → y.permit = false → NoGrant s.site s.road →
      exec (.displacementExpiry x) s = .next { s with
        site := at_ y.displaceTimer
        road := Road.report s.site .gateDisplaced (x.val + 1) (.limit d) { s.road with
          queue := s.road.queue.filter (· ≠ x) ++ [x]
          gates := s.road.gates.set x { z with state := if d = .down then .waitLower else .waitRaise } } }) ∧
    (¬(moving ∧ y.rampTimer.isSome) → exec (.rampStep x) s = .next { s with site := at_ y.rampTimer }) ∧
    (∀ t, moving → y.rampTimer = some t →
      let e := at_ y.rampTimer
      let d := if y.duty < c.runDuty then min c.runDuty (y.duty + 5) else max c.runDuty (y.duty - 5)
      let z : Gate :=
        { y with
          duty := d, driven := y.inForce e.now, dutyAt := e.now
          rampTimer := if d = c.runDuty then none else some (t + 100000) }
      exec (.rampStep x) s = .next { s with
        site := e
        road := { s.road with gates := s.road.gates.set x z } } ∧
      z.inForce e.now = y.inForce e.now ∧ ∀ after, e.now + 63 ≤ after → z.inForce after = d) ∧
    let period := fun (now : Nat) => (2 * now + Config.pwmPhase) / 125
    let duty := if period y.dutyAt < period s.site.now then y.duty else y.driven
    let counts := (2 * (250 * duty) + 100) / 200
    let sides : Nat × Nat := match y.state with
      | .lowering => (counts, 0)
      | .raising => (0, counts)
      | _ => (0, 0)
    s.bridge x = if s.site.phase = .running then sides else (0, 0)

/-- NOTICE_TIMER_EXPIRY and SWEEP_TIMER_EXPIRY. A timer that is stopped, or a segment in another state, does nothing. The first
sets NOTICE_INCOMPLETE, reports the number of blocking signs and goes on to CLEARING; the second leaves the segment in CLEARING
while a guard gate is neither DOWN nor FAULTED, and otherwise closes a segment that is held or CONFIRMED. Each row brings the
reference to its expiry (the model's choice, log 3). -/
def Obligations.SegmentTimersExpire : Prop :=
  ∀ (n : SegId) (s : State),
    let x := s.road.segment n
    let c := s.site.segCfg n
    let guard := fun (y : GateId) => (s.site.gateCfg y).enabled = true ∧ (s.site.gateCfg y).guarded = n
    let at_ := fun (t : Option Nat) => ({ s.site with now := max s.site.now (t.getD s.site.now) } : Site)
    let told := fun (st : SegState) (r : Road) => r.report s.site .segmentState (n.val + 1) (.segState st)
    let put := fun (y : Segment) => ({ s.road with segments := s.road.segments.set n y } : Road)
    let blocks := fun (h : SignId) => c.noticeSet.getLsbD h &&
      (decide ((s.road.head h).link = .online) || decide ((s.road.head h).link = .lagging)) &&
      !(match (s.road.sign h).confirmed with
        | some k => decide (k.cls = some .avalanche) || decide (k.cls = some .closure)
        | none => false)
    (¬(x.state = .notice ∧ x.noticeTimer.isSome) →
      exec (.noticeTimerExpiry n) s = .next { s with site := at_ x.noticeTimer }) ∧
    (x.state = .notice → x.noticeTimer.isSome → (∀ y, ¬guard y) → s.road.queue = [] → 0 < c.sweepTime →
      let e := at_ x.noticeTimer
      let z : Segment :=
        { x with
          state := .clearing, noticeTimer := none, noticeIncomplete := true
          sweepTimer := some (e.now + c.sweepTime * 1000000) }
      exec (.noticeTimerExpiry n) s = .next { s with
        site := e
        road := told .clearing (Road.report s.site .noticeExpired (n.val + 1)
          (.number ((List.finRange 16).countP blocks)) (put z)) }) ∧
    (¬(x.state = .clearing ∧ x.sweepTimer.isSome) →
      exec (.sweepTimerExpiry n) s = .next { s with site := at_ x.sweepTimer }) ∧
    (x.state = .clearing → x.sweepTimer.isSome →
      ((∃ y, guard y ∧ (s.road.gate y).state ≠ .down ∧ (s.road.gate y).state ≠ .faulted) →
        exec (.sweepTimerExpiry n) s = .next { s with site := at_ x.sweepTimer, road := put { x with sweepTimer := none } }) ∧
      ((∀ y, guard y → (s.road.gate y).target = some .down ∧
          ((s.road.gate y).state = .down ∨ (s.road.gate y).state = .faulted)) →
        s.road.queue = [] → (s.site.hold n ≠ {} ∨ c.reopenMode = .confirmed) →
        exec (.sweepTimerExpiry n) s = .next { s with
          site := at_ x.sweepTimer
          road := told .closed (put { x with state := .closed, sweepTimer := none }) }))

/-! ## Timebases, capture and detectors -/

/-- TIMEBASE_WRAP, FLASH_SLOT_ADVANCE and CAPTURE_EDGE. A wrap zeroes the count and is counted by the channels that select the
timebase, and a level time that has stopped at 65,535 ms stays there; a slot advance zeroes T3 and lights each beacon by its
active mask, taken from the wanted mask at slot 0; an edge acts by the mode of its channel, by its direction through the
polarity. Nothing else changes. The model's choices: the timed rows bring the reference to their moment (log 3), and outside
RUNNING an edge changes the level at the pin alone (log 24). -/
def Obligations.TimebasesAndEdges : Prop :=
  (∀ (t : TbId) (s : State),
    let c := s.site.tbCfg t
    let at_ := s.site.tbZero[t] + 16777216 * c.rate.division
    let selects := fun (n : ChanId) => decide ((s.site.chanCfg n).timebase = t)
    let count := fun (n : ChanId) =>
      let x := s.site.chan n
      let ticks := 16777215 + 16777216 * x.levelWraps - x.levelCount
      match (s.site.chanCfg n).mode with
      | .period => { x with wraps := min 2 (x.wraps + 1) }
      | .lowWidth =>
        { x with
          levelWraps := min 4 (x.levelWraps + 1)
          levelHeld := x.levelHeld || decide (65535 ≤ (2 * (ticks * c.rate.division) + 1000) / 2000) }
      | .off | .count => x
    (¬(s.site.phase = .running ∧ c.mode = .free) → exec (.timebaseWrap t) s = .next s) ∧
    (s.site.phase = .running → c.mode = .free →
      exec (.timebaseWrap t) s = .next { s with site := { s.site with
        now := max s.site.now at_
        tbZero := s.site.tbZero.set t at_
        channels := Vector.ofFn fun n => if selects n then count n else s.site.chan n } })) ∧
  (∀ s : State,
    let now := max s.site.now (s.site.tbZero[(3 : Fin 4)] + 250000)
    let slot := s.site.slot + 1
    let flashes := s.site.phase = .running ∧ (s.site.tbCfg 3).mode = .flash
    (¬flashes → exec .flashSlotAdvance s = .next s) ∧
    (flashes → exec .flashSlotAdvance s = .next { s with site := { s.site with
      now := now
      tbZero := s.site.tbZero.set 3 (s.site.tbZero[(3 : Fin 4)] + 250000)
      slot := slot
      paths := Vector.ofFn fun p =>
        let x := s.site.path p
        let a := if slot = 0 then x.wanted else x.active
        { x with active := a, lit := a.getLsbD slot.val } } })) ∧
  ∀ (n : ChanId) (rising : Bool) (s : State),
    let c := s.site.chanCfg n
    let tb := s.site.tbCfg c.timebase
    let up := rising != c.inverted
    let count := min ((s.site.now - s.site.tbZero[c.timebase]) / tb.rate.division) 16777215
    let x := s.site.chan n
    let z : Channel := { x with pin := rising }
    let leaves := fun (y : Channel) =>
      exec (.captureEdge n rising) s = .next { s with site := { s.site with channels := s.site.channels.set n y } }
    let live := s.site.phase = .running
    (¬live ∨ c.mode = .off ∨ (up = false ∧ (c.mode = .period ∨ c.mode = .count)) → leaves z) ∧
    (live → c.mode = .lowWidth → leaves { z with levelCount := count, levelWraps := 0, levelHeld := false }) ∧
    (live → c.mode = .count → up = true → leaves { z with bin := min 65535 (x.bin + 1) }) ∧
    (live → c.mode = .period → up = true → x.reference = none →
      leaves { z with reference := some count, wraps := 0, edgeCount := 0 }) ∧
    (∀ ref, live → c.mode = .period → up = true → x.reference = some ref →
      let elapsed := count + 16777216 * x.wraps - ref
      (x.edgeCount + 1 < c.edges.number → leaves { z with edgeCount := x.edgeCount + 1 }) ∧
      (c.edges.number ≤ x.edgeCount + 1 →
        let done : Period :=
          { ticks := if elapsed < 16777216 then some elapsed else none, edges := c.edges, timebase := c.timebase
            rate := tb.rate, completed := s.site.now }
        leaves { z with
          reference := some count, wraps := 0, edgeCount := 0, latest := if elapsed = 0 then x.latest else some done }))

/-- LOW_WIDTH_DEBOUNCE_REACHED, HIGH_TIME_REACHED, BIN_CLOSE and CONFIRM_TIMER_EXPIRY. A change of continuity, or a closed bin,
on a channel that no enabled path watches changes the channel alone. On one that serves a path by its first or second detector,
a wire that breaks, or bins that reach the threshold, fire a READY detector: the path is SUSPECT or RELEASED by its mode and
coverage, with its hold, claim, beacon and report; a READY trip-line found BROKEN is SPENT and one SPENT and INTACT again is
READY, each with its report and the coverage; a detector in another state is left. The end of the confirm window makes the path
QUIET: its fired detector is READY, or SPENT while the wire is torn, the coverage follows, PATH_UNCONFIRMED is queued, every
hold is kept, and the claim of a path not declared is withdrawn. The model's choices: the timed rows bring the reference to their
moment (log 3), and the order of the reports of one event, of a detector, of coverage and of the path (log 44). -/
def Obligations.DetectorsAct : Prop :=
  (∀ (n : ChanId) (s : State),
    let x := s.site.chan n
    let wire := s.site.phase = .running ∧ (s.site.chanCfg n).mode = .lowWidth
    let high := x.pin != (s.site.chanCfg n).inverted
    let e := fun (k : Continuity) =>
      ({ s.site with channels := s.site.channels.set n { x with continuity := k } } : Site)
    let broken := exec (.lowWidthDebounceReached n) s
    let intact := exec (.highTimeReached n) s
    (¬(wire ∧ high = false ∧ x.continuity ≠ .broken) → broken = .next s) ∧
    (¬(wire ∧ high = true ∧ x.continuity ≠ .intact) → intact = .next s) ∧
    (wire → high = false → x.continuity ≠ .broken → Unwatched s.site n → broken = .next { s with site := e .broken }) ∧
    (wire → high = true → x.continuity ≠ .intact → Unwatched s.site n → intact = .next { s with site := e .intact }) ∧
    ∀ p d w, wire → WatchedBy s.site n p d w → w.kind = .tripline →
      let st := ((s.site.path p).det d).state
      (high = false → x.continuity = .intact → st = .ready →
        ∃ u : State, broken = .next u ∧ PathFires p d n (e .broken) s u) ∧
      (high = false → x.continuity = .unknown → st = .ready →
        ∃ u : State, broken = .next u ∧ TriplineTurns .triplineFoundBroken .spent p d n (e .broken) s u) ∧
      (high = false → x.continuity ≠ .broken → st ≠ .ready → broken = .next { s with site := e .broken }) ∧
      (high = true → x.continuity ≠ .intact → st = .spent →
        ∃ u : State, intact = .next u ∧ TriplineTurns .triplineRestored .ready p d n (e .intact) s u) ∧
      (high = true → x.continuity ≠ .intact → st ≠ .spent → intact = .next { s with site := e .intact })) ∧
  (∀ (n : ChanId) (s : State),
    let x := s.site.chan n
    let e : Site := { s.site with now := max s.site.now (x.binEnd.getD s.site.now) }
    let z : Channel := { x with bins := (x.bin :: x.bins).take 60, bin := 0, binEnd := some (x.binEnd.getD e.now + 1000000) }
    let counts := s.site.phase = .running ∧ (s.site.chanCfg n).mode = .count
    let closed := exec (.binClose n) s
    (¬counts → closed = .next { s with site := e }) ∧
    (counts → Unwatched s.site n → closed = .next { s with site := { e with channels := s.site.channels.set n z } }) ∧
    ∀ p d w, counts → WatchedBy s.site n p d w → w.kind = .seismic →
      let y := s.site.path p
      let bins := min 60 ((y.det d).bins + 1)
      let e' : Site := { e with
        channels := s.site.channels.set n z, paths := s.site.paths.set p (y.setDet d { y.det d with bins := bins }) }
      let full := decide ((y.det d).state = .ready) && decide (w.threshold ≤ (z.bins.take (min w.window bins)).sum)
      (full = false → closed = .next { s with site := e' }) ∧
      (full = true → ∃ u : State, closed = .next u ∧ PathFires p d n e' s u)) ∧
  ∀ (p : PathId) (s : State),
    let c := s.site.pathCfg p
    let x := s.site.path p
    let e : Site := { s.site with now := max s.site.now (x.confirmTimer.getD s.site.now) }
    let live := c.enabled = true ∧ x.detection = .suspect ∧ x.confirmTimer.isSome = true
    (¬live → exec (.confirmTimerExpiry p) s = .next { s with site := e }) ∧
    (live → ∃ u : State, exec (.confirmTimerExpiry p) s = .next u) ∧
    ∀ d w, live → detOf c d = some w → (x.det d).state = .fired → d = (if x.det1.state = .fired then .first else .second) →
      let mask : BitVec 8 :=
        if c.beaconEnabled && x.declared then beaconMask .slow c.beaconPhase s.site.stage else 0
      let mended := decide (w.kind = .tripline) && decide ((s.site.chan w.chan).continuity = .intact)
      let rt : DetectorRt := match w.kind with
        | .seismic => { state := .ready, bins := 0 }
        | .tripline => { state := if mended then .ready else .spent, bins := (x.det d).bins }
      let y : Path :=
        { x.setDet d rt with
          detection := .quiet, confirmTimer := none, wanted := mask
          lit := if (s.site.tbCfg 3).mode = .free then mask != 0 else x.lit }
      let new := ({ e with paths := s.site.paths.set p y } : Site).coverageOf p
      let kind : ReportKind := match new with
        | .full => .pathCoverageRestored
        | .degraded => .pathDegraded
        | .blind => .pathBlind
      let told := fun (k : ReportKind) (r : Road) => r.report s.site k (p.val + 1) (.chan w.chan)
      let r1 := if mended then told .triplineRestored s.road else s.road
      let r2 := told .pathUnconfirmed (if new = x.coverage then r1 else told kind r1)
      ∃ u : State, exec (.confirmTimerExpiry p) s = .next u ∧ u.pending = s.pending ∧
        u.site = { e with paths := s.site.paths.set p { y with coverage := new } } ∧
        (c.signs = 0 ∨ x.declared = true → u.road = r2) ∧
        (NoNotice s.site s.road → ∀ h : SignId, (u.road.sign h).claims =
          if c.signs.getLsbD h = true ∧ x.declared = false then (s.road.sign h).claims.filter (·.source != .path p)
          else (s.road.sign h).claims)

/-! ## Measurement -/

/-- ANALOG_CONVERSION_COMPLETE stores its code; SAMPLE_COMPLETION takes a sample of each input that is named and of A9, by the
fault bands, and of each wind channel, publishes the table, and sets the next completion 1 s on. It changes no configuration,
channel, clock, entry, notice or store. The model's choices: outside RUNNING neither row does anything (log 30), and the
completion brings the reference to its moment (log 3). -/
def Obligations.SamplesAreTaken : Prop :=
  (∀ (i : InputId) (code : Nat) (s : State),
    (s.site.phase ≠ .running → exec (.analogConversionComplete i code) s = .next s) ∧
    (s.site.phase = .running → exec (.analogConversionComplete i code) s =
      .next { s with site := { s.site with codes := s.site.codes.set i code } })) ∧
  (∀ s : State, s.site.phase ≠ .running → exec .sampleCompletion s = .next s) ∧
  ∀ s : State, s.site.phase = .running →
    let now := max s.site.now (s.site.sampleEnd.getD s.site.now)
    let took := fun (x : Analog) (code : Nat) (cal : Calibration) (lo hi : Int) =>
      let v := max lo (min hi (cal.lo + (2 * ((code : Int) * (cal.hi - cal.lo)) + 4095) / 8190))
      if code ≤ 8 ∨ 4087 ≤ code then ({ ring := x.ring, fault := true } : Analog)
      else if x.fault then { ring := [v], fault := false }
      else { ring := (v :: x.ring).take 8, fault := false }
    let input := fun (i : Option (Fin 9)) (x : Analog) (cal : Calibration) (lo hi : Int) => match i with
      | some j => took x s.site.codes[j.val] cal lo hi
      | none => x
    let direct := fun (named : Bool) (x : Analog) =>
      if named = false ∨ x.ring = [] then ({ value := 0, quality := .absent } : Quantity)
      else { value := (2 * x.ring.sum + x.ring.length) / (2 * x.ring.length), quality := if x.fault then .stale else .good }
    ∃ u : State, exec .sampleCompletion s = .next u ∧ u.pending = s.pending ∧
      u.site = { s.site with
        now := now, sampleEnd := some (s.site.sampleEnd.getD now + 1000000), holds := u.site.holds, stations := u.site.stations
        supplyIn := u.site.supplyIn, table := u.site.table, triggers := u.site.triggers, paths := u.site.paths
        stage := u.site.stage, established := u.site.established, fall := u.site.fall, deep := u.site.deep
        rise := u.site.rise } ∧
      u.site.supplyIn = took s.site.supplyIn s.site.codes[9] s.site.cfg.supply.cal 0 3000 ∧
      u.site.quantity .supply = direct true u.site.supplyIn ∧
      ∀ w : StationId,
        let c := s.site.stationCfg w
        let x := s.site.station w
        let y := u.site.station w
        y.air = input c.airInput x.air c.airCal (-500) 500 ∧ y.surf = input c.surfInput x.surf c.surfCal (-500) 500 ∧
        y.rh = input c.rhInput x.rh c.rhCal 0 1000 ∧
        u.site.quantity (.station w .air) = direct c.airInput.isSome y.air ∧
        u.site.quantity (.station w .surf) = direct c.surfInput.isSome y.surf ∧
        u.site.quantity (.station w .rh) = direct c.rhInput.isSome y.rh ∧
        (c.wind = none → y.windRing = x.windRing) ∧
        (∀ n, c.wind = some n → (s.site.chanCfg n).mode ≠ .period → y.windRing = []) ∧
        (∀ n p, c.wind = some n → (s.site.chanCfg n).mode = .period → (s.site.chan n).latest = some p →
          now - p.completed ≤ 4000000 →
          let v := match p.ticks with
            | some t => min 750 ((2 * (p.edges.number * c.k * 10000) + t * p.rate.division) / (2 * (t * p.rate.division)))
            | none => 0
          y.windRing = (v :: x.windRing).take 120)

/-- After each sample completion DEW and FROST are worked out of AIR, RH and SURF as published with it, with the worst quality
of their sources, WIND is the mean of the wind ring and GUST the largest running mean of three of its 60 newest samples, or the
mean of one or two. -/
def Obligations.DerivedQuantities : Prop :=
  ∀ s : State, s.site.phase = .running → ∃ u : State, exec .sampleCompletion s = .next u ∧ ∀ w : StationId,
    let q := fun (k : QKind) => u.site.quantity (.station w k)
    let from2 := fun (a b : Quantity) (v : Int) =>
      if a.quality = .absent ∨ b.quality = .absent then ({ value := 0, quality := .absent } : Quantity)
      else { value := v, quality := if a.quality = .stale ∨ b.quality = .stale then .stale else .good }
    let ring := (u.site.station w).windRing
    let last := ring.take 60
    let run := fun (i : Nat) => ((2 * (last.getD i 0 + last.getD (i + 1) 0 + last.getD (i + 2) 0) + 3) / 6 : Nat)
    q .dew = from2 (q .air) (q .rh) (max (-500) (min 500 ((q .air).value - (2 * (1000 - (q .rh).value) + 5) / 10))) ∧
    q .frost = from2 (q .surf) (q .dew) (max (-999) (min 999 ((q .surf).value - (q .dew).value))) ∧
    ∀ n, (s.site.stationCfg w).wind = some n → (s.site.chanCfg n).mode = .period → ring ≠ [] →
      q .wind = { value := ((2 * ring.sum + ring.length) / (2 * ring.length) : Nat), quality := .good } ∧
      (last.length < 3 →
        q .gust = { value := ((2 * last.sum + last.length) / (2 * last.length) : Nat), quality := .good }) ∧
      (3 ≤ last.length → (q .gust).quality = .good ∧ (∃ i, i + 2 < last.length ∧ (q .gust).value = (run i : Int)) ∧
        ∀ i, i + 2 < last.length → (run i : Int) ≤ (q .gust).value)

/-- At each sample completion every enabled trigger moves by the table for its state on a GOOD source, is ARMED on an ABSENT one
and holds on a STALE one, and its hold on each enabled segment of its set is raised or dropped exactly as it begins or ceases to
stand, with its TRIGGER_ACTIVE or TRIGGER_CLEARED report. With no segment in NOTICE, no gate queued and no hold of such a
trigger to raise or drop, each posts its ADVISORY claim on its signs, or withdraws it, in trigger order, and no other claim
changes. -/
def Obligations.TriggersFollowSamples : Prop :=
  ∀ s : State, s.site.phase = .running → ∃ u : State, exec .sampleCompletion s = .next u ∧
    let stands := fun (y : Trigger) => decide (y.state = .active) || decide (y.state = .falling)
    (∀ k : TrigId,
      let c := s.site.trigCfg k
      let x := s.site.trigger k
      let y := u.site.trigger k
      let q := u.site.quantity c.source
      let set := match c.relation with
        | .above => decide (c.setLevel ≤ q.value)
        | .below => decide (q.value ≤ c.setLevel)
      let clear := match c.relation with
        | .above => decide (q.value ≤ c.clearLevel)
        | .below => decide (c.clearLevel ≤ q.value)
      let up : TrigState × Nat :=
        if c.setCount ≤ (if x.state = .rising then x.count else 0) + 1 then (.active, 0)
        else (.rising, (if x.state = .rising then x.count else 0) + 1)
      let down : TrigState × Nat :=
        if c.clearCount ≤ (if x.state = .falling then x.count else 0) + 1 then (.armed, 0)
        else (.falling, (if x.state = .falling then x.count else 0) + 1)
      (c.enabled = false → y = x) ∧
      (c.enabled = true → y.latest = some q ∧
        (q.quality = .stale → y.state = x.state ∧ y.count = x.count) ∧
        (q.quality = .absent → y.state = .armed ∧ y.count = 0) ∧
        (q.quality = .good → (x.state = .armed ∨ x.state = .rising) →
          (y.state, y.count) = if set then up else (.armed, 0)) ∧
        (q.quality = .good → (x.state = .active ∨ x.state = .falling) →
          (y.state, y.count) = if clear then down else (.active, 0)) ∧
        (∀ i, (u.site.hold i).has (.trigger k) =
          if (s.site.segCfg i).enabled && hasSeg c.segments i && (stands x != stands y) then stands y
          else (s.site.hold i).has (.trigger k)) ∧
        (stands x ≠ stands y → u.road.lost = true ∨
          { kind := if stands y then .triggerActive else .triggerCleared, subject := k.val + 1
            value := if stands y then .reason c.reason
              else .clearCause (if q.quality = .absent then .sourceAbsent else .samples)
            stamp := s.site.clock } ∈ u.road.reports))) ∧
    (NoNotice s.site s.road → s.road.queue = [] →
      (∀ k, stands (s.site.trigger k) ≠ stands (u.site.trigger k) → (s.site.trigCfg k).segments = 0) →
      ∀ h : SignId, (u.road.sign h).claims = (List.finRange 24).foldl (fun l k =>
        let c := s.site.trigCfg k
        let before := stands (s.site.trigger k)
        let now := stands (u.site.trigger k)
        if !c.signs.getLsbD h then l
        else if now && !before && c.template != 0 then
          (postedList { source := .trigger k, cls := .advisory, template := c.template } l).1
        else if before && !now then l.filter (·.source != .trigger k) else l) (s.road.sign h).claims)

/-- At each sample completion the Supply Monitor reads the SUPPLY quantity: one that is not GOOD changes nothing; a GOOD one
sets the stage directly, and for good until the next reset, once the A9 ring holds 8 samples, and before that changes nothing;
after it, the stage and its three counts move by the fall and rise rules. -/
def Obligations.SupplyStageFollowsSamples : Prop :=
  ∀ s : State, s.site.phase = .running → ∃ u : State, exec .sampleCompletion s = .next u ∧
    let q := u.site.quantity .supply
    let c := s.site.cfg.supply
    let e := s.site
    let becomes := fun (st : Stage) (fall deep rise : Nat) (established : Bool) =>
      u.site.stage = st ∧ u.site.fall = fall ∧ u.site.deep = deep ∧ u.site.rise = rise ∧ u.site.established = established
    let next := fun (b : Bool) (n : Nat) => if b then n + 1 else 0
    (q.quality ≠ .good → becomes e.stage e.fall e.deep e.rise e.established) ∧
    (q.quality = .good → e.established = false →
      (u.site.supplyIn.ring.length < 8 → becomes e.stage e.fall e.deep e.rise false) ∧
      (8 ≤ u.site.supplyIn.ring.length → becomes
        (if q.value < c.resEnter then .reserve else if q.value < c.ecoEnter then .economy else .normal) 0 0 0 true)) ∧
    (q.quality = .good → e.established = true →
      (e.stage = .normal →
        let f := next (decide (q.value < c.ecoEnter)) e.fall
        let d := next (decide (q.value < c.resEnter)) e.deep
        if 10 ≤ d then becomes .reserve 0 0 0 true
        else if 10 ≤ f then becomes .economy d 0 0 true else becomes .normal f d 0 true) ∧
      (e.stage = .economy →
        let f := next (decide (q.value < c.resEnter)) e.fall
        let r := next (decide (c.ecoLeave ≤ q.value)) e.rise
        if 10 ≤ f then becomes .reserve 0 0 0 true
        else if 60 ≤ r then becomes .normal 0 0 0 true else becomes .economy f 0 r true) ∧
      (e.stage = .reserve →
        let r := next (decide (c.resLeave ≤ q.value)) e.rise
        if 60 ≤ r then becomes .economy 0 0 0 true else becomes .reserve 0 0 r true))

/-- A change of the supply stage by a sample completion is reported and taken up by each reader. Beacons: every wanted mask is
that of the new stage. Signs: in RESERVE no advisory or standing page but a blank one is left pending on an enabled sign, and
with no segment in NOTICE and no gate queued an enabled sign whose page slot is not being written has its pending page, or else
its sent page, under the new cap. Polls: a head whose time since its latest transaction has passed its interval is due, or has
the link. Permits and link, with no trigger enabled and no segment in NOTICE: a lower count takes no permit and grants none; a
higher one lets a gate queued alone start; a load in flight of a page that RESERVE blanks is to end after its answer, and any
other exchange in flight goes on. -/
def Obligations.StageChangeReachesItsReaders : Prop :=
  ∀ s : State, s.site.phase = .running → ∃ u : State, exec .sampleCompletion s = .next u ∧
    let stage := u.site.stage
    let cap : Nat := match stage with
      | .normal => 100
      | .economy => 60
      | .reserve => 30
    let permits := fun (st : Stage) => (match st with
      | .normal => 3
      | .economy => 2
      | .reserve => 1 : Nat)
    let lesser := fun (p : Page) => p.cls = some .advisory ∨ p.cls = none
    (stage ≠ s.site.stage →
      (u.road.lost = true ∨
        { kind := .supplyStage, subject := 0, value := .stage stage, stamp := s.site.clock } ∈ u.road.reports) ∧
      (∀ p, let c := s.site.pathCfg p
        let x := s.site.path p
        let pattern : Pattern := if x.detection ≠ .quiet then .fast else if x.declared then .slow else .off
        (u.site.path p).wanted =
          if c.enabled && c.beaconEnabled then beaconMask pattern c.beaconPhase stage else 0) ∧
      (∀ h, (s.site.signCfg h).enabled = true →
        let y := u.road.sign h
        let page := min (s.site.signCfg h).maxBrightness cap
        (∀ x, stage = .reserve → y.pending = some x → lesser x.page →
          x.page.template = 0 ∧ x.page.text = List.replicate 54 32) ∧
        (NoNotice s.site s.road → s.road.queue = [] → slotWriting u.road (pageSlot u.site u.road h) = false →
          match y.pending with
          | some x => x.page.cap = page
          | none => ∃ x, y.sent = some x ∧ x.page.cap = page)) ∧
      (∀ h t, u.site.dueAt (u.road.head h) = some t → t ≤ u.site.now →
        (u.road.head h).due.isSome = true ∨ ∃ w, u.road.link = some w ∧ w.head = h) ∧
      ((∀ k, (s.site.trigCfg k).enabled = false) → NoNotice s.site s.road →
        (permits stage ≤ permits s.site.stage → u.road.gates = s.road.gates ∧ u.road.queue = s.road.queue) ∧
        (∀ g d, permits s.site.stage < permits stage → s.road.queue = [g] → s.road.holders < permits stage →
          let y := s.road.gate g
          y.state = (if d = .down then .waitLower else .waitRaise) → y.trip = false → y.limit d = false →
          (d = .down → ¬((s.site.gateCfg g).presenceUsed = true ∧ y.presence = true)) →
          u.road.queue = [] ∧ u.road.gates = s.road.gates.set g (motionStarted u.site g d y)) ∧
        ∀ t w, s.road.link = some t → t.wait = .answer w →
          let dropped := decide (stage = .reserve) && decide (t.step ≠ .poll) && !t.rewritten &&
            (s.road.sign t.head).sent.any fun x => decide (lesser x.page) && x.page.template != 0
          u.road.link = some { t with reserved := t.reserved || dropped }))

/-! ## Signs and the sign link -/

/-- RERENDER_CHECK and NAK_WAIT_EXPIRY. The check sets the next one 30 s on and renders each enabled sign: the page of the claim
shown, or of the standing template, with its text, or blank in RESERVE, for no template and for one that is EMPTY or BAD, which
is reported once. Against a sent page of the same text, cap and attribute nothing is pending and the sent page takes the page's
claim, and so does a confirmed claim under its tag; any other page is pending and keeps the age of the one it replaces; while
its slot is being written nothing is pending. The end of a NAK delay sends the same packet again. Where nothing applies, nothing
changes. The model's choices: each row brings the reference to its moment (log 3), and the answer window is counted from the
choice of the frame (log 15). -/
def Obligations.RenderAndNakRows : Prop :=
  (∀ s : State,
    let now := max s.site.now (s.site.rerenderAt.getD s.site.now)
    let e : Site := { s.site with now := now, rerenderAt := some (s.site.rerenderAt.getD now + 30000000) }
    (s.site.phase ≠ .running → exec .rerenderCheck s = .next s) ∧
    (s.site.phase = .running →
      (∃ r : Road, exec .rerenderCheck s = .next { s with site := e, road := r }) ∧
      ((∀ h, (s.site.signCfg h).enabled = false) → exec .rerenderCheck s = .next { s with site := e }) ∧
      ∀ h : SignId, (∀ i, (s.site.signCfg i).enabled = decide (i = h)) → s.road.link ≠ none → NoNotice s.site s.road →
        let y := s.road.sign h
        let shown := y.claims.head?
        let n := match shown with
          | some c => c.template
          | none => (s.site.signCfg h).standing
        let lesser := s.site.stage = .reserve ∧ (shown = none ∨ ∃ c, shown = some c ∧ c.cls = .advisory)
        let leaves := fun (r : Road) (z : Sign) =>
          exec .rerenderCheck s = .next { s with site := e, road := { r with signs := s.road.signs.set h z } }
        let offers := fun (u : Option Unusable) (r : Road) (text : List Nat) (used : TemplateNo) =>
          let page : Page :=
            { text := text, template := used, cls := shown.map (·.cls), claim := shown.map (·.source)
              cap := min (s.site.signCfg h).maxBrightness
                (if s.site.stage = .normal then 100 else if s.site.stage = .economy then 60 else 30)
              flashing := shown.any fun c => c.cls == .avalanche || c.cls == .closure }
          let same := fun (x : SentPage) =>
            x.page.text = page.text ∧ x.page.cap = page.cap ∧ x.page.flashing = page.flashing
          let pends := leaves { r with stamps := if y.pending = none then r.stamps + 1 else r.stamps }
            { y with unusable := u, pending := some { page := page, since := (y.pending.map (·.since)).getD r.stamps } }
          (y.sent = none → pends) ∧
          ∀ x, y.sent = some x → (¬same x → pends) ∧
            (same x → x.page.claim = page.claim → x.page.cls = page.cls →
              leaves r { y with unusable := u, pending := none }) ∧
            (same x → ¬(x.page.claim = page.claim ∧ x.page.cls = page.cls) →
              leaves r { y with
                unusable := u, pending := none
                sent := some { x with
                  page := { x.page with claim := page.claim, cls := page.cls, template := page.template } }
                confirmed := y.confirmed.map fun c =>
                  if c.tag = x.tag then { c with claim := page.claim, cls := page.cls } else c })
        (slotOf n = none → offers none s.road (List.replicate 54 32) 0) ∧
        ∀ k, slotOf n = some k →
          (∀ t, s.road.slots[k] = .writing t → leaves s.road { y with pending := none }) ∧
          ((∀ t, s.road.slots[k] ≠ .writing t) → lesser → offers none s.road (List.replicate 54 32) 0) ∧
          (¬lesser →
            (∀ t, s.road.slots[k] = .valid t true →
              offers none s.road (lineCells s.site t.line1 ++ lineCells s.site t.line2 ++ lineCells s.site t.line3) n) ∧
            (s.road.slots[k] = .empty ∨ s.road.slots[k] = .bad →
              let kind := (s.road.slots[k]).kind
              let u : Unusable := { claim := shown.map (·.source), slot := n, kind := kind }
              offers (some u)
                (if y.unusable = some u then s.road
                  else s.road.report e (if kind = .empty then .templateEmpty else .templateBad) (h.val + 1) (.slot n))
                (List.replicate 54 32) 0)))) ∧
  ∀ s : State,
    ((∀ t w, s.road.link = some t → t.wait ≠ .nak w) → exec .nakWaitExpiry s = .next s) ∧
    ∀ t w, s.road.link = some t → t.wait = .nak w →
      let e : Site := { s.site with now := max s.site.now w }
      let sent : Transaction := { t with wait := .answer (e.now + 50000) }
      exec .nakWaitExpiry s = .next { s with site := e, road := { s.road with link := some sent } }

/-- POLL_DUE, and what the arbiter then chooses. A head falls due once, and waits while the link is busy. With the link free: a
pending page of class AVALANCHE or CLOSURE on an ONLINE head, the lowest address first; else the oldest pending page on an
ONLINE head; else the due POLL that fell due first, the lowest address among equals; else nothing. A LOAD begins as its page
becomes the sent page under the head's next tag, which goes on to the next or from 255 to 1, with the NAK count at 0 and COMMAND
on the link. The model's choices: the row brings the reference to its moment (log 3), the answer window is counted from that
choice (log 15), a head without a toggle shows its bit as 0 (log 20), and a LOAD drops the moment its head fell due (log 39). -/
def Obligations.LinkArbiterChooses : Prop :=
  ∀ (h : SignId) (s : State),
    let x := s.road.head h
    let every : Nat := match x.link with
      | .unconfigured => 0
      | .probing => 2000000
      | .online | .stalled => match s.site.stage with
        | .normal => 10000000
        | .economy => 20000000
        | .reserve => 30000000
      | .lagging => 200000
      | .silent => 60000000
    let now := if x.link = .unconfigured then s.site.now else max s.site.now (x.lastEnd + every)
    let e : Site := { s.site with now := now }
    let fell : Head := { x with due := some now }
    let leaves := fun (r : Road) => exec (.pollDue h) s = .next { s with site := e, road := r }
    (∃ r : Road, leaves r) ∧
    (∀ t, s.road.link = some t → (x.link = .unconfigured ∨ x.due.isSome = true ∨ (t.head = h ∧ t.rewritten = false)) →
      leaves s.road) ∧
    (∀ t, s.road.link = some t → x.link ≠ .unconfigured → x.due = none → t.head ≠ h →
      leaves { s.road with heads := s.road.heads.set h fell }) ∧
    (s.site.phase = .running → s.road.link = none →
      let head := fun (g : SignId) =>
        if g = h ∧ x.link ≠ .unconfigured ∧ x.due = none then fell else s.road.head g
      let ready := fun (g : SignId) => if (s.road.head g).link = .online then (s.road.sign g).pending else none
      let urgent := fun (g : SignId) (p : PendingPage) =>
        ready g = some p ∧ (p.page.cls = some .avalanche ∨ p.page.cls = some .closure)
      let frame := fun (g : SignId) (step : Step) =>
        some ({ head := g, step := step, wait := .answer (now + 50000), toggle := (s.road.head g).toggle.getD false } :
          Transaction)
      let loads := fun (g : SignId) (p : PendingPage) =>
        let tag := (s.road.head g).nextTag
        leaves { s.road with
          heads := (Vector.ofFn head).set g
            { s.road.head g with nextTag := if tag = 255#8 then 1#8 else tag + 1#8, naks := 0, due := none }
          signs := s.road.signs.set g
            { s.road.sign g with pending := none, sent := some { page := p.page, tag := tag } }
          link := frame g .command }
      (∀ g p, urgent g p → (∀ i q, i < g → ¬urgent i q) → loads g p) ∧
      (∀ g p, ready g = some p → (∀ i q, ¬urgent i q) →
        (∀ i q, ready i = some q → p.since ≤ q.since ∧ (i < g → p.since < q.since)) → loads g p) ∧
      ((∀ g, ready g = none) →
        (∀ g m, (head g).due = some m →
          (∀ i k, (head i).due = some k → m ≤ k ∧ (i < g → m < k)) →
          leaves { s.road with
            heads := (Vector.ofFn head).set g { s.road.head g with due := none }, link := frame g .poll }) ∧
        ((∀ g, (head g).due = none) → leaves s.road)))

/-- The answers on the sign link, with no segment in NOTICE and no other work for the link. A good STATUS is kept and confirms
the page it names, and leaves the head STALLED with DISPLAY_FAIL and ONLINE without, where a head that was not ONLINE has its
page rendered anew and loaded. An ACK sends the next step under the toggled bit; a NAK waits 200 ms and the eighth abandons the
load; a STALL abandons it too; either of the first two brings a LAGGING head back ONLINE. A bad or missed answer to a data packet
makes an ONLINE head LAGGING and is sent again; the third in a row makes the head SILENT and abandons the load. A missed POLL
counts the same way, and to five in PROBING; a bad answer to a POLL makes the head PROBING, polled at once. With no exchange in
progress an answer does nothing. The model's choices: the window's row brings the reference to its end (log 3), the answer
window is counted from the choice of the frame (log 15), a head without a toggle shows its bit as 0 (log 20), and a LOAD whose
confirmation STATUS comes from a LAGGING head has ended before that STATUS is taken, so that its page is rendered anew (log 32). -/
def Obligations.LinkAnswersAct : Prop :=
  (∀ s : State, s.road.link = none →
    (∀ st, exec (.statusReceived st) s = .next s) ∧ exec .ackReceived s = .next s ∧ exec .nakReceived s = .next s ∧
    exec .stallReceived s = .next s ∧ (∀ w, exec (.badAnswerReceived w) s = .next s) ∧
    ∀ b, exec (.answerWindowExpiry b) s = .next s) ∧
  ∀ (s : State) (t : Transaction) (w : Nat), s.site.phase = .running → NoNotice s.site s.road → LinkQuiet s.road →
    s.road.link = some t → t.wait = .answer w → t.rewritten = false → t.reserved = false →
    let h := t.head
    let x := s.road.head h
    let y := s.road.sign h
    let data := t.step = .command ∨ t.step = .text1 ∨ t.step = .text2
    let now := s.site.now
    let end_ := max now w
    let put := fun (r : Road) (z : Head) (l : Option Transaction) =>
      ({ r with heads := s.road.heads.set h z, link := l } : Road)
    let leaves := fun (i : Instr) (r : Road) => exec i s = .next { s with road := r }
    let expires := fun (b : Bool) (r : Road) =>
      exec (.answerWindowExpiry b) s = .next { s with site := { s.site with now := end_ }, road := r }
    let told := fun (k : ReportKind) (v : ReportValue) (r : Road) => r.report s.site k (h.val + 1) v
    let again := fun (at_ : Nat) => some { t with wait := .answer (at_ + 50000) }
    let next : Transaction := { t with
      step := if t.step = .command then .text1 else if t.step = .text1 then .text2 else .confirm
      wait := .answer (now + 50000), toggle := !t.toggle }
    let back : Road := match y.sent with
      | some p =>
        let z : Sign := { y with pending := some { page := p.page, since := s.road.stamps } }
        { s.road with signs := s.road.signs.set h z, stamps := s.road.stamps + 1 }
      | none => s.road
    -- a good STATUS
    (∀ st p, ¬data → x.link = .online → y.sent = some p → p.tag = st.shownTag → st.displayFail = false →
      (∃ b, x.status = some b ∧ b.doorOpen = st.doorOpen ∧ b.heaterFail = st.heaterFail ∧
        (st.phase = .ready ∨ b.phase = .starting)) →
      let z : Sign := { y with confirmed := some { claim := p.page.claim, cls := p.page.cls, tag := p.tag } }
      leaves (.statusReceived st) (put { s.road with signs := s.road.signs.set h z }
        { x with status := some st, missed := 0, toggle := some st.toggle, lastEnd := now } none)) ∧
    (∀ st, ¬data → x.link ≠ .unconfigured → ∃ u : State, exec (.statusReceived st) s = .next u ∧ u.site = s.site ∧
      (u.road.head h).status = some st ∧ (u.road.head h).missed = 0 ∧ (u.road.head h).toggle = some st.toggle ∧
      (u.road.head h).lastEnd = now ∧
      (st.displayFail = true → (u.road.head h).link = .stalled ∧ u.road.link = none ∧
        (x.link = .stalled ∨ u.road.lost = true ∨ { kind := .headStalled, subject := h.val + 1
                                                    value := .stall .displayFail, stamp := s.site.clock } ∈ u.road.reports)) ∧
      (st.displayFail = false → (u.road.head h).link = .online ∧
        (x.link = .online ∨ u.road.lost = true ∨ { kind := .headLinkState, subject := h.val + 1
                                                   value := .link .online, stamp := s.site.clock } ∈ u.road.reports) ∧
        (x.link ≠ .online → (s.site.signCfg h).enabled = true → slotWriting s.road (pageSlot s.site s.road h) = false →
          u.road.link = some { head := h, step := .command, wait := .answer (now + 50000), toggle := st.toggle } ∧
          ∃ p, (u.road.sign h).sent = some p ∧ p.tag = x.nextTag))) ∧
    -- answers to a data packet
    (data → x.link = .online ∨ x.link = .lagging →
      let on := fun (r : Road) => if x.link = .online then r else told .headLinkState (.link .online) r
      leaves .ackReceived (put (on s.road)
        { x with naks := 0, missed := 0, toggle := some (!t.toggle), link := .online, due := none } (some next)) ∧
      (x.naks + 1 < 8 → leaves .nakReceived (put (on s.road)
        { x with naks := x.naks + 1, missed := 0, link := .online, due := none }
        (some { t with wait := .nak (now + 200000) }))) ∧
      (8 ≤ x.naks + 1 → x.link = .online → leaves .nakReceived
        (put (told .headLinkState (.link .lagging) (told .loadAbandoned (.abandon .naks) back))
          { x with naks := x.naks + 1, missed := 0, link := .lagging, due := none, lastEnd := now } none)) ∧
      leaves .stallReceived
        (put (told .headStalled (.stall .stall) (told .loadAbandoned (.abandon .stall) back))
          { x with missed := 0, link := .stalled, due := none, lastEnd := now } none) ∧
      let late := fun (at_ : Nat) =>
        if x.link = .online then put (told .headLinkState (.link .lagging) s.road)
          { x with missed := 1, link := .lagging, due := none } (again at_)
        else if x.missed + 1 < 3 then put s.road { x with missed := x.missed + 1 } (again at_)
        else put (told .loadAbandoned (.abandon .silent) (told .headLinkLost (.link .lagging) back))
          { x with missed := 0, link := .silent, due := none, lastEnd := at_ } none
      (∀ why, leaves (.badAnswerReceived why) (late now)) ∧ ∀ b, expires b (late end_)) ∧
    -- bad and missed answers to a POLL, or to the confirmation POLL of a load
    (¬data →
      let silent := fun (at_ : Nat) => put (told .headLinkLost (.link x.link) s.road)
        { x with link := .silent, missed := 0, due := none, lastEnd := at_ } none
      let probes := fun (at_ : Nat) => put (told .headLinkState (.link .probing) s.road)
        { x with link := .probing, toggle := none, missed := 0, due := none, lastEnd := at_ }
        (some { head := h, step := .poll, wait := .answer (at_ + 50000), toggle := false })
      let fifth := fun (at_ : Nat) =>
        if x.missed + 1 < 5 then put s.road { x with missed := x.missed + 1, lastEnd := at_ } none else silent at_
      (x.link = .online ∨ x.link = .lagging ∨ x.link = .stalled ∨ x.link = .silent →
        expires true (probes end_) ∧ ∀ why, leaves (.badAnswerReceived why) (probes now)) ∧
      (x.link = .probing → expires true (fifth end_) ∧ ∀ why, leaves (.badAnswerReceived why) (fifth now)) ∧
      (t.step = .poll →
        (x.link = .probing → expires false (fifth end_)) ∧
        (x.link = .online → expires false (put (told .headLinkState (.link .lagging) s.road)
          { x with link := .lagging, missed := 1, due := none, lastEnd := end_ } none)) ∧
        (x.link = .lagging ∨ x.link = .stalled → expires false
          (if x.missed + 1 < 3 then put s.road { x with missed := x.missed + 1, lastEnd := end_ } none
            else silent end_)) ∧
        (x.link = .silent → expires false (put s.road { x with lastEnd := end_ } none))) ∧
      (t.step = .confirm →
        (x.link = .online → expires false (put (told .headLinkState (.link .lagging) s.road)
          { x with link := .lagging, missed := 1, due := none } (again end_))) ∧
        (x.link = .lagging → expires false
          (if x.missed + 1 < 3 then put s.road { x with missed := x.missed + 1 } (again end_) else silent end_))))

/-! ## The report queue and what every step keeps -/

/-- A report that arrives joins a queue of fewer than 48; a full queue drops its oldest report of the lowest class for a report
of a higher class, and otherwise drops the report, and either sets the lost-reports flag. Every reset empties the queue and
clears the flag, before a start queues its own reports. -/
def Obligations.ReportsArrive : Prop :=
  (∀ (e : Site) (x : Report) (r : Road),
    (r.reports.length < 48 → (r.arrive e x).reports = r.reports ++ [x] ∧ (r.arrive e x).lost = r.lost) ∧
    (48 ≤ r.reports.length →
      (r.arrive e x).lost = true ∧
      ((∀ y ∈ r.reports, x.rank ≤ y.rank) → (r.arrive e x).reports = r.reports) ∧
      ∀ a y b, r.reports = a ++ y :: b → y.rank < x.rank → (∀ z ∈ a, y.rank < z.rank) → (∀ z ∈ b, y.rank ≤ z.rank) →
        (r.arrive e x).reports = a ++ b ++ [x])) ∧
  (∀ s : State, ∀ c ∈ ([.brownOut, .resetLineLow] : List Instr), ∃ u : State, exec c s = .next u ∧
    u.road.reports = [] ∧ u.road.lost = false) ∧
  (∀ (a b : Bool) (s : State), ∃ u : State, exec (.powerOn a b) s = .next u ∧ u.road.lost = false ∧
    (s.site.resetLow = true → u.road.reports = []) ∧
    (s.site.resetLow = false → 1 ≤ u.road.reports.length ∧ u.road.reports.length ≤ 2 ∧
      ∀ y ∈ u.road.reports, y.kind = .start ∨ y.kind = .storeFault)) ∧
  (∀ (a b : Bool) (s : State), s.site.resetLow = true → s.site.powerGood = true →
    ∃ u : State, exec (.resetLineHigh a b) s = .next u ∧ u.road.lost = false ∧ u.road.reports.length ≤ 2 ∧
      ∀ y ∈ u.road.reports, y.kind = .start ∨ y.kind = .storeFault) ∧
  ∀ (s : State) (x : Reply) (rest : List Reply), s.site.tx = x :: rest → x.restarts = true →
    ∃ u : State, exec .replySent s = .next u ∧ u.road.lost = false ∧ u.road.reports.length ≤ 2 ∧
      ∀ y ∈ u.road.reports, y.kind = .start ∨ y.kind = .storeFault

/-- Every step keeps the bounds: at most 48 reports, claim lists of at most 8 claims with one from a source and in class order,
each gate once in the permit queue, no page tag 0, at most 4 replies; and at most 3 gates with drive permits. -/
def Obligations.StepKeepsBounds : Prop :=
  ∀ s t : State, step s = .next t → (Bounded s → Bounded t) ∧ (PermitsOk s → PermitsOk t)

/-- Every step keeps ATTN: asserted exactly while RUNNING with a report at or above the attention level queued. -/
def Obligations.StepKeepsAttn : Prop := ∀ s t : State, AttnOk s → step s = .next t → AttnOk t

/-- Every step keeps what relates segments, holds and paths: no hold on an open segment, an avalanche hold only on a closing or
closed one, and a RELEASED path holding its crossing segment. That outside RUNNING every segment is OPEN without holds and every
path QUIET is the model's choice (log 30). -/
def Obligations.StepKeepsClosures : Prop := ∀ s t : State, ClosuresOk s → step s = .next t → ClosuresOk t

/-- Every step keeps what relates schedule entries, clock and holds: while RUNNING each entry is in the state its record, the
clock and the offset give, and a SCHEDULE hold stands only for an entry in CLOSING on a segment of its set. That outside RUNNING
every entry is IDLE is the model's choice (log 30). -/
def Obligations.StepKeepsSchedules : Prop :=
  ∀ s t : State, ClosuresOk s → SchedulesOk s → step s = .next t → SchedulesOk t

/-- What only certain commands change: the working configuration, the clock, the input pins of gates and channels, the
converter codes, the operator notices, the store operation and the image; and the queue of commands is no command's own. -/
def Obligations.OnlyTheseCommandsChange : Prop :=
  ∀ (c : Instr) (s t : State), exec c s = .next t →
    t.pending = s.pending ∧
    (isConfigWrite c = false → isReset c = false → t.site.cfg = s.site.cfg) ∧
    ((match c with
      | .setClock _ _ | .secondEvent | .powerOn _ _ | .brownOut => False
      | _ => True) → t.site.clock = s.site.clock) ∧
    (isGateInput c = false → ∀ g, (t.road.gate g).upLimit = (s.road.gate g).upLimit ∧
      (t.road.gate g).downLimit = (s.road.gate g).downLimit ∧ (t.road.gate g).presence = (s.road.gate g).presence ∧
      (t.road.gate g).trip = (s.road.gate g).trip) ∧
    ((∀ n b, c ≠ .captureEdge n b) → ∀ n, (t.site.chan n).pin = (s.site.chan n).pin) ∧
    (isReset c = false →
      ((∀ i v, c ≠ .analogConversionComplete i v) → t.site.codes = s.site.codes) ∧
      ((∀ g b, c ≠ .postNotice g b) → (∀ g b, c ≠ .withdrawNotice g b) → t.site.notices = s.site.notices) ∧
      (((∀ g b, c ≠ .putTemplate g b) ∧ (∀ g b, c ≠ .saveConfig g b) ∧ (∀ b, c ≠ .templateWriteComplete b) ∧
        ∀ b, c ≠ .configSaveComplete b) → t.site.storeOp = s.site.storeOp)) ∧
    ((∀ g b, c ≠ .saveConfig g b) → (∀ b, c ≠ .configSaveComplete b) → t.site.image = s.site.image)
end

