-- ==== Sys2Proof/Laws/State.lean ====
section
/-! SUPPORT. One lemma per field per update of State, Site and Road, each true by rfl, and what a record reads as after a
record has been written. -/

namespace Sys2Proof.Machine

variable (s : State) (e : Site) (r : Road)

/-! ## The two parts of a state -/

@[simp] theorem State.setSite_site (e' : Site) : (s.setSite e').site = e' := rfl
@[simp] theorem State.setSite_road (e' : Site) : (s.setSite e').road = s.road := rfl
@[simp] theorem State.setSite_pending (e' : Site) : (s.setSite e').pending = s.pending := rfl
@[simp] theorem State.setRoad_site (r' : Road) : (s.setRoad r').site = s.site := rfl
@[simp] theorem State.setRoad_road (r' : Road) : (s.setRoad r').road = r' := rfl
@[simp] theorem State.setRoad_pending (r' : Road) : (s.setRoad r').pending = s.pending := rfl
@[simp] theorem State.mapSite_site (f : Site → Site) : (s.mapSite f).site = f s.site := rfl
@[simp] theorem State.mapSite_road (f : Site → Site) : (s.mapSite f).road = s.road := rfl
@[simp] theorem State.mapSite_pending (f : Site → Site) : (s.mapSite f).pending = s.pending := rfl
@[simp] theorem State.react_site (f : Site → Road → Road) : (s.react f).site = s.site := rfl
@[simp] theorem State.react_road (f : Site → Road → Road) : (s.react f).road = f s.site s.road := rfl
@[simp] theorem State.react_pending (f : Site → Road → Road) : (s.react f).pending = s.pending := rfl
@[simp] theorem State.report_site (k : ReportKind) (n : Nat) (v : ReportValue) : (s.report k n v).site = s.site := rfl
@[simp] theorem State.report_pending (k : ReportKind) (n : Nat) (v : ReportValue) : (s.report k n v).pending = s.pending := rfl
@[simp] theorem State.report_road (k : ReportKind) (n : Nat) (v : ReportValue) :
    (s.report k n v).road = s.road.report s.site k n v := rfl
@[simp] theorem State.reach_road (t : Option Nat) : (s.reach t).road = s.road := rfl
@[simp] theorem State.reach_pending (t : Option Nat) : (s.reach t).pending = s.pending := rfl
@[simp] theorem State.reach_site (t : Option Nat) :
    (s.reach t).site = { s.site with now := max s.site.now (t.getD s.site.now) } := rfl

/-! ## The records of Road -/

@[simp] theorem Road.setSegment_segments (n : SegId) (x : Segment) : (Road.setSegment n x r).segments = r.segments.set n x := rfl
@[simp] theorem Road.setSegment_passes (n : SegId) (x : Segment) : (Road.setSegment n x r).passes = r.passes := rfl
@[simp] theorem Road.setSegment_gates (n : SegId) (x : Segment) : (Road.setSegment n x r).gates = r.gates := rfl
@[simp] theorem Road.setSegment_queue (n : SegId) (x : Segment) : (Road.setSegment n x r).queue = r.queue := rfl
@[simp] theorem Road.setSegment_signs (n : SegId) (x : Segment) : (Road.setSegment n x r).signs = r.signs := rfl
@[simp] theorem Road.setSegment_heads (n : SegId) (x : Segment) : (Road.setSegment n x r).heads = r.heads := rfl
@[simp] theorem Road.setSegment_link (n : SegId) (x : Segment) : (Road.setSegment n x r).link = r.link := rfl
@[simp] theorem Road.setSegment_stamps (n : SegId) (x : Segment) : (Road.setSegment n x r).stamps = r.stamps := rfl
@[simp] theorem Road.setSegment_slots (n : SegId) (x : Segment) : (Road.setSegment n x r).slots = r.slots := rfl
@[simp] theorem Road.setSegment_reports (n : SegId) (x : Segment) : (Road.setSegment n x r).reports = r.reports := rfl
@[simp] theorem Road.setSegment_lost (n : SegId) (x : Segment) : (Road.setSegment n x r).lost = r.lost := rfl
@[simp] theorem Road.setSegment_attn (n : SegId) (x : Segment) : (Road.setSegment n x r).attn = r.attn := rfl
@[simp] theorem Road.setPass_segments (n : GateId) (x : Pass) : (Road.setPass n x r).segments = r.segments := rfl
@[simp] theorem Road.setPass_passes (n : GateId) (x : Pass) : (Road.setPass n x r).passes = r.passes.set n x := rfl
@[simp] theorem Road.setPass_gates (n : GateId) (x : Pass) : (Road.setPass n x r).gates = r.gates := rfl
@[simp] theorem Road.setPass_queue (n : GateId) (x : Pass) : (Road.setPass n x r).queue = r.queue := rfl
@[simp] theorem Road.setPass_signs (n : GateId) (x : Pass) : (Road.setPass n x r).signs = r.signs := rfl
@[simp] theorem Road.setPass_heads (n : GateId) (x : Pass) : (Road.setPass n x r).heads = r.heads := rfl
@[simp] theorem Road.setPass_link (n : GateId) (x : Pass) : (Road.setPass n x r).link = r.link := rfl
@[simp] theorem Road.setPass_stamps (n : GateId) (x : Pass) : (Road.setPass n x r).stamps = r.stamps := rfl
@[simp] theorem Road.setPass_slots (n : GateId) (x : Pass) : (Road.setPass n x r).slots = r.slots := rfl
@[simp] theorem Road.setPass_reports (n : GateId) (x : Pass) : (Road.setPass n x r).reports = r.reports := rfl
@[simp] theorem Road.setPass_lost (n : GateId) (x : Pass) : (Road.setPass n x r).lost = r.lost := rfl
@[simp] theorem Road.setPass_attn (n : GateId) (x : Pass) : (Road.setPass n x r).attn = r.attn := rfl
@[simp] theorem Road.setGate_segments (n : GateId) (x : Gate) : (Road.setGate n x r).segments = r.segments := rfl
@[simp] theorem Road.setGate_passes (n : GateId) (x : Gate) : (Road.setGate n x r).passes = r.passes := rfl
@[simp] theorem Road.setGate_gates (n : GateId) (x : Gate) : (Road.setGate n x r).gates = r.gates.set n x := rfl
@[simp] theorem Road.setGate_queue (n : GateId) (x : Gate) : (Road.setGate n x r).queue = r.queue := rfl
@[simp] theorem Road.setGate_signs (n : GateId) (x : Gate) : (Road.setGate n x r).signs = r.signs := rfl
@[simp] theorem Road.setGate_heads (n : GateId) (x : Gate) : (Road.setGate n x r).heads = r.heads := rfl
@[simp] theorem Road.setGate_link (n : GateId) (x : Gate) : (Road.setGate n x r).link = r.link := rfl
@[simp] theorem Road.setGate_stamps (n : GateId) (x : Gate) : (Road.setGate n x r).stamps = r.stamps := rfl
@[simp] theorem Road.setGate_slots (n : GateId) (x : Gate) : (Road.setGate n x r).slots = r.slots := rfl
@[simp] theorem Road.setGate_reports (n : GateId) (x : Gate) : (Road.setGate n x r).reports = r.reports := rfl
@[simp] theorem Road.setGate_lost (n : GateId) (x : Gate) : (Road.setGate n x r).lost = r.lost := rfl
@[simp] theorem Road.setGate_attn (n : GateId) (x : Gate) : (Road.setGate n x r).attn = r.attn := rfl
@[simp] theorem Road.setSign_segments (n : SignId) (x : Sign) : (Road.setSign n x r).segments = r.segments := rfl
@[simp] theorem Road.setSign_passes (n : SignId) (x : Sign) : (Road.setSign n x r).passes = r.passes := rfl
@[simp] theorem Road.setSign_gates (n : SignId) (x : Sign) : (Road.setSign n x r).gates = r.gates := rfl
@[simp] theorem Road.setSign_queue (n : SignId) (x : Sign) : (Road.setSign n x r).queue = r.queue := rfl
@[simp] theorem Road.setSign_signs (n : SignId) (x : Sign) : (Road.setSign n x r).signs = r.signs.set n x := rfl
@[simp] theorem Road.setSign_heads (n : SignId) (x : Sign) : (Road.setSign n x r).heads = r.heads := rfl
@[simp] theorem Road.setSign_link (n : SignId) (x : Sign) : (Road.setSign n x r).link = r.link := rfl
@[simp] theorem Road.setSign_stamps (n : SignId) (x : Sign) : (Road.setSign n x r).stamps = r.stamps := rfl
@[simp] theorem Road.setSign_slots (n : SignId) (x : Sign) : (Road.setSign n x r).slots = r.slots := rfl
@[simp] theorem Road.setSign_reports (n : SignId) (x : Sign) : (Road.setSign n x r).reports = r.reports := rfl
@[simp] theorem Road.setSign_lost (n : SignId) (x : Sign) : (Road.setSign n x r).lost = r.lost := rfl
@[simp] theorem Road.setSign_attn (n : SignId) (x : Sign) : (Road.setSign n x r).attn = r.attn := rfl
@[simp] theorem Road.setHead_segments (n : SignId) (x : Head) : (Road.setHead n x r).segments = r.segments := rfl
@[simp] theorem Road.setHead_passes (n : SignId) (x : Head) : (Road.setHead n x r).passes = r.passes := rfl
@[simp] theorem Road.setHead_gates (n : SignId) (x : Head) : (Road.setHead n x r).gates = r.gates := rfl
@[simp] theorem Road.setHead_queue (n : SignId) (x : Head) : (Road.setHead n x r).queue = r.queue := rfl
@[simp] theorem Road.setHead_signs (n : SignId) (x : Head) : (Road.setHead n x r).signs = r.signs := rfl
@[simp] theorem Road.setHead_heads (n : SignId) (x : Head) : (Road.setHead n x r).heads = r.heads.set n x := rfl
@[simp] theorem Road.setHead_link (n : SignId) (x : Head) : (Road.setHead n x r).link = r.link := rfl
@[simp] theorem Road.setHead_stamps (n : SignId) (x : Head) : (Road.setHead n x r).stamps = r.stamps := rfl
@[simp] theorem Road.setHead_slots (n : SignId) (x : Head) : (Road.setHead n x r).slots = r.slots := rfl
@[simp] theorem Road.setHead_reports (n : SignId) (x : Head) : (Road.setHead n x r).reports = r.reports := rfl
@[simp] theorem Road.setHead_lost (n : SignId) (x : Head) : (Road.setHead n x r).lost = r.lost := rfl
@[simp] theorem Road.setHead_attn (n : SignId) (x : Head) : (Road.setHead n x r).attn = r.attn := rfl
@[simp] theorem Road.setSlot_segments (n : SlotId) (x : Slot) : (Road.setSlot n x r).segments = r.segments := rfl
@[simp] theorem Road.setSlot_passes (n : SlotId) (x : Slot) : (Road.setSlot n x r).passes = r.passes := rfl
@[simp] theorem Road.setSlot_gates (n : SlotId) (x : Slot) : (Road.setSlot n x r).gates = r.gates := rfl
@[simp] theorem Road.setSlot_queue (n : SlotId) (x : Slot) : (Road.setSlot n x r).queue = r.queue := rfl
@[simp] theorem Road.setSlot_signs (n : SlotId) (x : Slot) : (Road.setSlot n x r).signs = r.signs := rfl
@[simp] theorem Road.setSlot_heads (n : SlotId) (x : Slot) : (Road.setSlot n x r).heads = r.heads := rfl
@[simp] theorem Road.setSlot_link (n : SlotId) (x : Slot) : (Road.setSlot n x r).link = r.link := rfl
@[simp] theorem Road.setSlot_stamps (n : SlotId) (x : Slot) : (Road.setSlot n x r).stamps = r.stamps := rfl
@[simp] theorem Road.setSlot_slots (n : SlotId) (x : Slot) : (Road.setSlot n x r).slots = r.slots.set n x := rfl
@[simp] theorem Road.setSlot_reports (n : SlotId) (x : Slot) : (Road.setSlot n x r).reports = r.reports := rfl
@[simp] theorem Road.setSlot_lost (n : SlotId) (x : Slot) : (Road.setSlot n x r).lost = r.lost := rfl
@[simp] theorem Road.setSlot_attn (n : SlotId) (x : Slot) : (Road.setSlot n x r).attn = r.attn := rfl
@[simp] theorem Road.setLinkTo_segments (t : Option Transaction) : (Road.setLinkTo t r).segments = r.segments := rfl
@[simp] theorem Road.setLinkTo_passes (t : Option Transaction) : (Road.setLinkTo t r).passes = r.passes := rfl
@[simp] theorem Road.setLinkTo_gates (t : Option Transaction) : (Road.setLinkTo t r).gates = r.gates := rfl
@[simp] theorem Road.setLinkTo_queue (t : Option Transaction) : (Road.setLinkTo t r).queue = r.queue := rfl
@[simp] theorem Road.setLinkTo_signs (t : Option Transaction) : (Road.setLinkTo t r).signs = r.signs := rfl
@[simp] theorem Road.setLinkTo_heads (t : Option Transaction) : (Road.setLinkTo t r).heads = r.heads := rfl
@[simp] theorem Road.setLinkTo_link (t : Option Transaction) : (Road.setLinkTo t r).link = t := rfl
@[simp] theorem Road.setLinkTo_stamps (t : Option Transaction) : (Road.setLinkTo t r).stamps = r.stamps := rfl
@[simp] theorem Road.setLinkTo_slots (t : Option Transaction) : (Road.setLinkTo t r).slots = r.slots := rfl
@[simp] theorem Road.setLinkTo_reports (t : Option Transaction) : (Road.setLinkTo t r).reports = r.reports := rfl
@[simp] theorem Road.setLinkTo_lost (t : Option Transaction) : (Road.setLinkTo t r).lost = r.lost := rfl
@[simp] theorem Road.setLinkTo_attn (t : Option Transaction) : (Road.setLinkTo t r).attn = r.attn := rfl
@[simp] theorem Road.onGate_segments (n : GateId) (f : Gate → Gate) : (Road.onGate n f r).segments = r.segments := rfl
@[simp] theorem Road.onGate_passes (n : GateId) (f : Gate → Gate) : (Road.onGate n f r).passes = r.passes := rfl
@[simp] theorem Road.onGate_gates (n : GateId) (f : Gate → Gate) : (Road.onGate n f r).gates = r.gates.set n (f (r.gate n)) := rfl
@[simp] theorem Road.onGate_queue (n : GateId) (f : Gate → Gate) : (Road.onGate n f r).queue = r.queue := rfl
@[simp] theorem Road.onGate_signs (n : GateId) (f : Gate → Gate) : (Road.onGate n f r).signs = r.signs := rfl
@[simp] theorem Road.onGate_heads (n : GateId) (f : Gate → Gate) : (Road.onGate n f r).heads = r.heads := rfl
@[simp] theorem Road.onGate_link (n : GateId) (f : Gate → Gate) : (Road.onGate n f r).link = r.link := rfl
@[simp] theorem Road.onGate_stamps (n : GateId) (f : Gate → Gate) : (Road.onGate n f r).stamps = r.stamps := rfl
@[simp] theorem Road.onGate_slots (n : GateId) (f : Gate → Gate) : (Road.onGate n f r).slots = r.slots := rfl
@[simp] theorem Road.onGate_reports (n : GateId) (f : Gate → Gate) : (Road.onGate n f r).reports = r.reports := rfl
@[simp] theorem Road.onGate_lost (n : GateId) (f : Gate → Gate) : (Road.onGate n f r).lost = r.lost := rfl
@[simp] theorem Road.onGate_attn (n : GateId) (f : Gate → Gate) : (Road.onGate n f r).attn = r.attn := rfl
@[simp] theorem Road.onSign_segments (n : SignId) (f : Sign → Sign) : (Road.onSign n f r).segments = r.segments := rfl
@[simp] theorem Road.onSign_passes (n : SignId) (f : Sign → Sign) : (Road.onSign n f r).passes = r.passes := rfl
@[simp] theorem Road.onSign_gates (n : SignId) (f : Sign → Sign) : (Road.onSign n f r).gates = r.gates := rfl
@[simp] theorem Road.onSign_queue (n : SignId) (f : Sign → Sign) : (Road.onSign n f r).queue = r.queue := rfl
@[simp] theorem Road.onSign_signs (n : SignId) (f : Sign → Sign) : (Road.onSign n f r).signs = r.signs.set n (f (r.sign n)) := rfl
@[simp] theorem Road.onSign_heads (n : SignId) (f : Sign → Sign) : (Road.onSign n f r).heads = r.heads := rfl
@[simp] theorem Road.onSign_link (n : SignId) (f : Sign → Sign) : (Road.onSign n f r).link = r.link := rfl
@[simp] theorem Road.onSign_stamps (n : SignId) (f : Sign → Sign) : (Road.onSign n f r).stamps = r.stamps := rfl
@[simp] theorem Road.onSign_slots (n : SignId) (f : Sign → Sign) : (Road.onSign n f r).slots = r.slots := rfl
@[simp] theorem Road.onSign_reports (n : SignId) (f : Sign → Sign) : (Road.onSign n f r).reports = r.reports := rfl
@[simp] theorem Road.onSign_lost (n : SignId) (f : Sign → Sign) : (Road.onSign n f r).lost = r.lost := rfl
@[simp] theorem Road.onSign_attn (n : SignId) (f : Sign → Sign) : (Road.onSign n f r).attn = r.attn := rfl
@[simp] theorem Road.onHead_segments (n : SignId) (f : Head → Head) : (Road.onHead n f r).segments = r.segments := rfl
@[simp] theorem Road.onHead_passes (n : SignId) (f : Head → Head) : (Road.onHead n f r).passes = r.passes := rfl
@[simp] theorem Road.onHead_gates (n : SignId) (f : Head → Head) : (Road.onHead n f r).gates = r.gates := rfl
@[simp] theorem Road.onHead_queue (n : SignId) (f : Head → Head) : (Road.onHead n f r).queue = r.queue := rfl
@[simp] theorem Road.onHead_signs (n : SignId) (f : Head → Head) : (Road.onHead n f r).signs = r.signs := rfl
@[simp] theorem Road.onHead_heads (n : SignId) (f : Head → Head) : (Road.onHead n f r).heads = r.heads.set n (f (r.head n)) := rfl
@[simp] theorem Road.onHead_link (n : SignId) (f : Head → Head) : (Road.onHead n f r).link = r.link := rfl
@[simp] theorem Road.onHead_stamps (n : SignId) (f : Head → Head) : (Road.onHead n f r).stamps = r.stamps := rfl
@[simp] theorem Road.onHead_slots (n : SignId) (f : Head → Head) : (Road.onHead n f r).slots = r.slots := rfl
@[simp] theorem Road.onHead_reports (n : SignId) (f : Head → Head) : (Road.onHead n f r).reports = r.reports := rfl
@[simp] theorem Road.onHead_lost (n : SignId) (f : Head → Head) : (Road.onHead n f r).lost = r.lost := rfl
@[simp] theorem Road.onHead_attn (n : SignId) (f : Head → Head) : (Road.onHead n f r).attn = r.attn := rfl
@[simp] theorem Road.onSegment_segments (n : SegId) (f : Segment → Segment) : (Road.onSegment n f r).segments = r.segments.set n (f (r.segment n)) := rfl
@[simp] theorem Road.onSegment_passes (n : SegId) (f : Segment → Segment) : (Road.onSegment n f r).passes = r.passes := rfl
@[simp] theorem Road.onSegment_gates (n : SegId) (f : Segment → Segment) : (Road.onSegment n f r).gates = r.gates := rfl
@[simp] theorem Road.onSegment_queue (n : SegId) (f : Segment → Segment) : (Road.onSegment n f r).queue = r.queue := rfl
@[simp] theorem Road.onSegment_signs (n : SegId) (f : Segment → Segment) : (Road.onSegment n f r).signs = r.signs := rfl
@[simp] theorem Road.onSegment_heads (n : SegId) (f : Segment → Segment) : (Road.onSegment n f r).heads = r.heads := rfl
@[simp] theorem Road.onSegment_link (n : SegId) (f : Segment → Segment) : (Road.onSegment n f r).link = r.link := rfl
@[simp] theorem Road.onSegment_stamps (n : SegId) (f : Segment → Segment) : (Road.onSegment n f r).stamps = r.stamps := rfl
@[simp] theorem Road.onSegment_slots (n : SegId) (f : Segment → Segment) : (Road.onSegment n f r).slots = r.slots := rfl
@[simp] theorem Road.onSegment_reports (n : SegId) (f : Segment → Segment) : (Road.onSegment n f r).reports = r.reports := rfl
@[simp] theorem Road.onSegment_lost (n : SegId) (f : Segment → Segment) : (Road.onSegment n f r).lost = r.lost := rfl
@[simp] theorem Road.onSegment_attn (n : SegId) (f : Segment → Segment) : (Road.onSegment n f r).attn = r.attn := rfl
@[simp] theorem Road.leaveQueue_segments (g : GateId) : (Road.leaveQueue g r).segments = r.segments := rfl
@[simp] theorem Road.leaveQueue_passes (g : GateId) : (Road.leaveQueue g r).passes = r.passes := rfl
@[simp] theorem Road.leaveQueue_gates (g : GateId) : (Road.leaveQueue g r).gates = r.gates := rfl
@[simp] theorem Road.leaveQueue_queue (g : GateId) : (Road.leaveQueue g r).queue = r.queue.filter (· ≠ g) := rfl
@[simp] theorem Road.leaveQueue_signs (g : GateId) : (Road.leaveQueue g r).signs = r.signs := rfl
@[simp] theorem Road.leaveQueue_heads (g : GateId) : (Road.leaveQueue g r).heads = r.heads := rfl
@[simp] theorem Road.leaveQueue_link (g : GateId) : (Road.leaveQueue g r).link = r.link := rfl
@[simp] theorem Road.leaveQueue_stamps (g : GateId) : (Road.leaveQueue g r).stamps = r.stamps := rfl
@[simp] theorem Road.leaveQueue_slots (g : GateId) : (Road.leaveQueue g r).slots = r.slots := rfl
@[simp] theorem Road.leaveQueue_reports (g : GateId) : (Road.leaveQueue g r).reports = r.reports := rfl
@[simp] theorem Road.leaveQueue_lost (g : GateId) : (Road.leaveQueue g r).lost = r.lost := rfl
@[simp] theorem Road.leaveQueue_attn (g : GateId) : (Road.leaveQueue g r).attn = r.attn := rfl
@[simp] theorem Road.evalAttn_segments : (Road.evalAttn e r).segments = r.segments := rfl
@[simp] theorem Road.evalAttn_passes : (Road.evalAttn e r).passes = r.passes := rfl
@[simp] theorem Road.evalAttn_gates : (Road.evalAttn e r).gates = r.gates := rfl
@[simp] theorem Road.evalAttn_queue : (Road.evalAttn e r).queue = r.queue := rfl
@[simp] theorem Road.evalAttn_signs : (Road.evalAttn e r).signs = r.signs := rfl
@[simp] theorem Road.evalAttn_heads : (Road.evalAttn e r).heads = r.heads := rfl
@[simp] theorem Road.evalAttn_link : (Road.evalAttn e r).link = r.link := rfl
@[simp] theorem Road.evalAttn_stamps : (Road.evalAttn e r).stamps = r.stamps := rfl
@[simp] theorem Road.evalAttn_slots : (Road.evalAttn e r).slots = r.slots := rfl
@[simp] theorem Road.evalAttn_reports : (Road.evalAttn e r).reports = r.reports := rfl
@[simp] theorem Road.evalAttn_lost : (Road.evalAttn e r).lost = r.lost := rfl
@[simp] theorem Road.evalAttn_attn : (Road.evalAttn e r).attn = attnOf e r.reports := rfl
@[simp] theorem Road.arrive_segments (x : Report) : (Road.arrive e x r).segments = r.segments := by
  unfold Road.arrive; repeat (split <;> try rfl)
@[simp] theorem Road.arrive_passes (x : Report) : (Road.arrive e x r).passes = r.passes := by
  unfold Road.arrive; repeat (split <;> try rfl)
@[simp] theorem Road.arrive_gates (x : Report) : (Road.arrive e x r).gates = r.gates := by
  unfold Road.arrive; repeat (split <;> try rfl)
@[simp] theorem Road.arrive_queue (x : Report) : (Road.arrive e x r).queue = r.queue := by
  unfold Road.arrive; repeat (split <;> try rfl)
@[simp] theorem Road.arrive_signs (x : Report) : (Road.arrive e x r).signs = r.signs := by
  unfold Road.arrive; repeat (split <;> try rfl)
@[simp] theorem Road.arrive_heads (x : Report) : (Road.arrive e x r).heads = r.heads := by
  unfold Road.arrive; repeat (split <;> try rfl)
@[simp] theorem Road.arrive_link (x : Report) : (Road.arrive e x r).link = r.link := by
  unfold Road.arrive; repeat (split <;> try rfl)
@[simp] theorem Road.arrive_stamps (x : Report) : (Road.arrive e x r).stamps = r.stamps := by
  unfold Road.arrive; repeat (split <;> try rfl)
@[simp] theorem Road.arrive_slots (x : Report) : (Road.arrive e x r).slots = r.slots := by
  unfold Road.arrive; repeat (split <;> try rfl)
@[simp] theorem Road.report_segments (k : ReportKind) (n : Nat) (v : ReportValue) : (Road.report e k n v r).segments = r.segments := by
  simp [Road.report]
@[simp] theorem Road.report_passes (k : ReportKind) (n : Nat) (v : ReportValue) : (Road.report e k n v r).passes = r.passes := by
  simp [Road.report]
@[simp] theorem Road.report_gates (k : ReportKind) (n : Nat) (v : ReportValue) : (Road.report e k n v r).gates = r.gates := by
  simp [Road.report]
@[simp] theorem Road.report_queue (k : ReportKind) (n : Nat) (v : ReportValue) : (Road.report e k n v r).queue = r.queue := by
  simp [Road.report]
@[simp] theorem Road.report_signs (k : ReportKind) (n : Nat) (v : ReportValue) : (Road.report e k n v r).signs = r.signs := by
  simp [Road.report]
@[simp] theorem Road.report_heads (k : ReportKind) (n : Nat) (v : ReportValue) : (Road.report e k n v r).heads = r.heads := by
  simp [Road.report]
@[simp] theorem Road.report_link (k : ReportKind) (n : Nat) (v : ReportValue) : (Road.report e k n v r).link = r.link := by
  simp [Road.report]
@[simp] theorem Road.report_stamps (k : ReportKind) (n : Nat) (v : ReportValue) : (Road.report e k n v r).stamps = r.stamps := by
  simp [Road.report]
@[simp] theorem Road.report_slots (k : ReportKind) (n : Nat) (v : ReportValue) : (Road.report e k n v r).slots = r.slots := by
  simp [Road.report]

/-! ## Reading back -/

theorem Road.segment_setSegment (n : SegId) (x : Segment) (m : SegId) :
    (Road.setSegment n x r).segment m = if m = n then x else r.segment m := by
  simp [Road.segment, Road.setSegment, Vector.getElem_set, Fin.ext_iff, eq_comm]
@[simp] theorem Road.segment_setSegment_same (n : SegId) (x : Segment) : (Road.setSegment n x r).segment n = x := by
  simp [Road.segment_setSegment]
theorem Road.pass_setPass (n : GateId) (x : Pass) (m : GateId) :
    (Road.setPass n x r).pass m = if m = n then x else r.pass m := by
  simp [Road.pass, Road.setPass, Vector.getElem_set, Fin.ext_iff, eq_comm]
@[simp] theorem Road.pass_setPass_same (n : GateId) (x : Pass) : (Road.setPass n x r).pass n = x := by
  simp [Road.pass_setPass]
theorem Road.gate_setGate (n : GateId) (x : Gate) (m : GateId) :
    (Road.setGate n x r).gate m = if m = n then x else r.gate m := by
  simp [Road.gate, Road.setGate, Vector.getElem_set, Fin.ext_iff, eq_comm]
@[simp] theorem Road.gate_setGate_same (n : GateId) (x : Gate) : (Road.setGate n x r).gate n = x := by
  simp [Road.gate_setGate]
theorem Road.sign_setSign (n : SignId) (x : Sign) (m : SignId) :
    (Road.setSign n x r).sign m = if m = n then x else r.sign m := by
  simp [Road.sign, Road.setSign, Vector.getElem_set, Fin.ext_iff, eq_comm]
@[simp] theorem Road.sign_setSign_same (n : SignId) (x : Sign) : (Road.setSign n x r).sign n = x := by
  simp [Road.sign_setSign]
theorem Road.head_setHead (n : SignId) (x : Head) (m : SignId) :
    (Road.setHead n x r).head m = if m = n then x else r.head m := by
  simp [Road.head, Road.setHead, Vector.getElem_set, Fin.ext_iff, eq_comm]
@[simp] theorem Road.head_setHead_same (n : SignId) (x : Head) : (Road.setHead n x r).head n = x := by
  simp [Road.head_setHead]
@[simp] theorem Road.pass_setSegment (n : SegId) (x : Segment) (m : GateId) : (Road.setSegment n x r).pass m = r.pass m := rfl
@[simp] theorem Road.gate_setSegment (n : SegId) (x : Segment) (m : GateId) : (Road.setSegment n x r).gate m = r.gate m := rfl
@[simp] theorem Road.sign_setSegment (n : SegId) (x : Segment) (m : SignId) : (Road.setSegment n x r).sign m = r.sign m := rfl
@[simp] theorem Road.head_setSegment (n : SegId) (x : Segment) (m : SignId) : (Road.setSegment n x r).head m = r.head m := rfl
@[simp] theorem Road.segment_setPass (n : GateId) (x : Pass) (m : SegId) : (Road.setPass n x r).segment m = r.segment m := rfl
@[simp] theorem Road.gate_setPass (n : GateId) (x : Pass) (m : GateId) : (Road.setPass n x r).gate m = r.gate m := rfl
@[simp] theorem Road.sign_setPass (n : GateId) (x : Pass) (m : SignId) : (Road.setPass n x r).sign m = r.sign m := rfl
@[simp] theorem Road.head_setPass (n : GateId) (x : Pass) (m : SignId) : (Road.setPass n x r).head m = r.head m := rfl
@[simp] theorem Road.segment_setGate (n : GateId) (x : Gate) (m : SegId) : (Road.setGate n x r).segment m = r.segment m := rfl
@[simp] theorem Road.pass_setGate (n : GateId) (x : Gate) (m : GateId) : (Road.setGate n x r).pass m = r.pass m := rfl
@[simp] theorem Road.sign_setGate (n : GateId) (x : Gate) (m : SignId) : (Road.setGate n x r).sign m = r.sign m := rfl
@[simp] theorem Road.head_setGate (n : GateId) (x : Gate) (m : SignId) : (Road.setGate n x r).head m = r.head m := rfl
@[simp] theorem Road.segment_setSign (n : SignId) (x : Sign) (m : SegId) : (Road.setSign n x r).segment m = r.segment m := rfl
@[simp] theorem Road.pass_setSign (n : SignId) (x : Sign) (m : GateId) : (Road.setSign n x r).pass m = r.pass m := rfl
@[simp] theorem Road.gate_setSign (n : SignId) (x : Sign) (m : GateId) : (Road.setSign n x r).gate m = r.gate m := rfl
@[simp] theorem Road.head_setSign (n : SignId) (x : Sign) (m : SignId) : (Road.setSign n x r).head m = r.head m := rfl
@[simp] theorem Road.segment_setHead (n : SignId) (x : Head) (m : SegId) : (Road.setHead n x r).segment m = r.segment m := rfl
@[simp] theorem Road.pass_setHead (n : SignId) (x : Head) (m : GateId) : (Road.setHead n x r).pass m = r.pass m := rfl
@[simp] theorem Road.gate_setHead (n : SignId) (x : Head) (m : GateId) : (Road.setHead n x r).gate m = r.gate m := rfl
@[simp] theorem Road.sign_setHead (n : SignId) (x : Head) (m : SignId) : (Road.setHead n x r).sign m = r.sign m := rfl
@[simp] theorem Road.segment_setSlot (n : SlotId) (x : Slot) (m : SegId) : (Road.setSlot n x r).segment m = r.segment m := rfl
@[simp] theorem Road.pass_setSlot (n : SlotId) (x : Slot) (m : GateId) : (Road.setSlot n x r).pass m = r.pass m := rfl
@[simp] theorem Road.gate_setSlot (n : SlotId) (x : Slot) (m : GateId) : (Road.setSlot n x r).gate m = r.gate m := rfl
@[simp] theorem Road.sign_setSlot (n : SlotId) (x : Slot) (m : SignId) : (Road.setSlot n x r).sign m = r.sign m := rfl
@[simp] theorem Road.head_setSlot (n : SlotId) (x : Slot) (m : SignId) : (Road.setSlot n x r).head m = r.head m := rfl
@[simp] theorem Road.segment_setLinkTo (t : Option Transaction) (m : SegId) : (Road.setLinkTo t r).segment m = r.segment m := rfl
@[simp] theorem Road.segment_leaveQueue (n : GateId) (m : SegId) : (Road.leaveQueue n r).segment m = r.segment m := rfl
@[simp] theorem Road.segment_evalAttn (m : SegId) : (Road.evalAttn e r).segment m = r.segment m := rfl
@[simp] theorem Road.segment_report (k : ReportKind) (n : Nat) (v : ReportValue) (m : SegId) :
    (Road.report e k n v r).segment m = r.segment m := by
  simp [Road.segment]
@[simp] theorem Road.pass_setLinkTo (t : Option Transaction) (m : GateId) : (Road.setLinkTo t r).pass m = r.pass m := rfl
@[simp] theorem Road.pass_leaveQueue (n : GateId) (m : GateId) : (Road.leaveQueue n r).pass m = r.pass m := rfl
@[simp] theorem Road.pass_evalAttn (m : GateId) : (Road.evalAttn e r).pass m = r.pass m := rfl
@[simp] theorem Road.pass_report (k : ReportKind) (n : Nat) (v : ReportValue) (m : GateId) :
    (Road.report e k n v r).pass m = r.pass m := by
  simp [Road.pass]
@[simp] theorem Road.gate_setLinkTo (t : Option Transaction) (m : GateId) : (Road.setLinkTo t r).gate m = r.gate m := rfl
@[simp] theorem Road.gate_leaveQueue (n : GateId) (m : GateId) : (Road.leaveQueue n r).gate m = r.gate m := rfl
@[simp] theorem Road.gate_evalAttn (m : GateId) : (Road.evalAttn e r).gate m = r.gate m := rfl
@[simp] theorem Road.gate_report (k : ReportKind) (n : Nat) (v : ReportValue) (m : GateId) :
    (Road.report e k n v r).gate m = r.gate m := by
  simp [Road.gate]
@[simp] theorem Road.sign_setLinkTo (t : Option Transaction) (m : SignId) : (Road.setLinkTo t r).sign m = r.sign m := rfl
@[simp] theorem Road.sign_leaveQueue (n : GateId) (m : SignId) : (Road.leaveQueue n r).sign m = r.sign m := rfl
@[simp] theorem Road.sign_evalAttn (m : SignId) : (Road.evalAttn e r).sign m = r.sign m := rfl
@[simp] theorem Road.sign_report (k : ReportKind) (n : Nat) (v : ReportValue) (m : SignId) :
    (Road.report e k n v r).sign m = r.sign m := by
  simp [Road.sign]
@[simp] theorem Road.head_setLinkTo (t : Option Transaction) (m : SignId) : (Road.setLinkTo t r).head m = r.head m := rfl
@[simp] theorem Road.head_leaveQueue (n : GateId) (m : SignId) : (Road.leaveQueue n r).head m = r.head m := rfl
@[simp] theorem Road.head_evalAttn (m : SignId) : (Road.evalAttn e r).head m = r.head m := rfl
@[simp] theorem Road.head_report (k : ReportKind) (n : Nat) (v : ReportValue) (m : SignId) :
    (Road.report e k n v r).head m = r.head m := by
  simp [Road.head]
theorem Road.gate_onGate (n : GateId) (f : Gate → Gate) (m : GateId) :
    (Road.onGate n f r).gate m = if m = n then f (r.gate n) else r.gate m := by
  simp [Road.onGate, Road.gate_setGate]
@[simp] theorem Road.gate_onGate_same (n : GateId) (f : Gate → Gate) : (Road.onGate n f r).gate n = f (r.gate n) := by
  simp [Road.onGate]
@[simp] theorem Road.segment_onGate (n : GateId) (f : Gate → Gate) (m : SegId) : (Road.onGate n f r).segment m = r.segment m := rfl
@[simp] theorem Road.pass_onGate (n : GateId) (f : Gate → Gate) (m : GateId) : (Road.onGate n f r).pass m = r.pass m := rfl
@[simp] theorem Road.sign_onGate (n : GateId) (f : Gate → Gate) (m : SignId) : (Road.onGate n f r).sign m = r.sign m := rfl
@[simp] theorem Road.head_onGate (n : GateId) (f : Gate → Gate) (m : SignId) : (Road.onGate n f r).head m = r.head m := rfl
theorem Road.sign_onSign (n : SignId) (f : Sign → Sign) (m : SignId) :
    (Road.onSign n f r).sign m = if m = n then f (r.sign n) else r.sign m := by
  simp [Road.onSign, Road.sign_setSign]
@[simp] theorem Road.sign_onSign_same (n : SignId) (f : Sign → Sign) : (Road.onSign n f r).sign n = f (r.sign n) := by
  simp [Road.onSign]
@[simp] theorem Road.segment_onSign (n : SignId) (f : Sign → Sign) (m : SegId) : (Road.onSign n f r).segment m = r.segment m := rfl
@[simp] theorem Road.pass_onSign (n : SignId) (f : Sign → Sign) (m : GateId) : (Road.onSign n f r).pass m = r.pass m := rfl
@[simp] theorem Road.gate_onSign (n : SignId) (f : Sign → Sign) (m : GateId) : (Road.onSign n f r).gate m = r.gate m := rfl
@[simp] theorem Road.head_onSign (n : SignId) (f : Sign → Sign) (m : SignId) : (Road.onSign n f r).head m = r.head m := rfl
theorem Road.head_onHead (n : SignId) (f : Head → Head) (m : SignId) :
    (Road.onHead n f r).head m = if m = n then f (r.head n) else r.head m := by
  simp [Road.onHead, Road.head_setHead]
@[simp] theorem Road.head_onHead_same (n : SignId) (f : Head → Head) : (Road.onHead n f r).head n = f (r.head n) := by
  simp [Road.onHead]
@[simp] theorem Road.segment_onHead (n : SignId) (f : Head → Head) (m : SegId) : (Road.onHead n f r).segment m = r.segment m := rfl
@[simp] theorem Road.pass_onHead (n : SignId) (f : Head → Head) (m : GateId) : (Road.onHead n f r).pass m = r.pass m := rfl
@[simp] theorem Road.gate_onHead (n : SignId) (f : Head → Head) (m : GateId) : (Road.onHead n f r).gate m = r.gate m := rfl
@[simp] theorem Road.sign_onHead (n : SignId) (f : Head → Head) (m : SignId) : (Road.onHead n f r).sign m = r.sign m := rfl
theorem Road.segment_onSegment (n : SegId) (f : Segment → Segment) (m : SegId) :
    (Road.onSegment n f r).segment m = if m = n then f (r.segment n) else r.segment m := by
  simp [Road.onSegment, Road.segment_setSegment]
@[simp] theorem Road.segment_onSegment_same (n : SegId) (f : Segment → Segment) : (Road.onSegment n f r).segment n = f (r.segment n) := by
  simp [Road.onSegment]
@[simp] theorem Road.pass_onSegment (n : SegId) (f : Segment → Segment) (m : GateId) : (Road.onSegment n f r).pass m = r.pass m := rfl
@[simp] theorem Road.gate_onSegment (n : SegId) (f : Segment → Segment) (m : GateId) : (Road.onSegment n f r).gate m = r.gate m := rfl
@[simp] theorem Road.sign_onSegment (n : SegId) (f : Segment → Segment) (m : SignId) : (Road.onSegment n f r).sign m = r.sign m := rfl
@[simp] theorem Road.head_onSegment (n : SegId) (f : Segment → Segment) (m : SignId) : (Road.onSegment n f r).head m = r.head m := rfl

/-! ## The records of Site -/

@[simp] theorem Site.setHold_now (n : SegId) (x : HoldSet) : (Site.setHold n x e).now = e.now := rfl
@[simp] theorem Site.setHold_phase (n : SegId) (x : HoldSet) : (Site.setHold n x e).phase = e.phase := rfl
@[simp] theorem Site.setHold_powerGood (n : SegId) (x : HoldSet) : (Site.setHold n x e).powerGood = e.powerGood := rfl
@[simp] theorem Site.setHold_resetLow (n : SegId) (x : HoldSet) : (Site.setHold n x e).resetLow = e.resetLow := rfl
@[simp] theorem Site.setHold_strap1 (n : SegId) (x : HoldSet) : (Site.setHold n x e).strap1 = e.strap1 := rfl
@[simp] theorem Site.setHold_strap2 (n : SegId) (x : HoldSet) : (Site.setHold n x e).strap2 = e.strap2 := rfl
@[simp] theorem Site.setHold_lineRate (n : SegId) (x : HoldSet) : (Site.setHold n x e).lineRate = e.lineRate := rfl
@[simp] theorem Site.setHold_startCause (n : SegId) (x : HoldSet) : (Site.setHold n x e).startCause = e.startCause := rfl
@[simp] theorem Site.setHold_powerSinceRun (n : SegId) (x : HoldSet) : (Site.setHold n x e).powerSinceRun = e.powerSinceRun := rfl
@[simp] theorem Site.setHold_cfg (n : SegId) (x : HoldSet) : (Site.setHold n x e).cfg = e.cfg := rfl
@[simp] theorem Site.setHold_holds (n : SegId) (x : HoldSet) : (Site.setHold n x e).holds = e.holds.set n x := rfl
@[simp] theorem Site.setHold_tbZero (n : SegId) (x : HoldSet) : (Site.setHold n x e).tbZero = e.tbZero := rfl
@[simp] theorem Site.setHold_slot (n : SegId) (x : HoldSet) : (Site.setHold n x e).slot = e.slot := rfl
@[simp] theorem Site.setHold_channels (n : SegId) (x : HoldSet) : (Site.setHold n x e).channels = e.channels := rfl
@[simp] theorem Site.setHold_codes (n : SegId) (x : HoldSet) : (Site.setHold n x e).codes = e.codes := rfl
@[simp] theorem Site.setHold_stations (n : SegId) (x : HoldSet) : (Site.setHold n x e).stations = e.stations := rfl
@[simp] theorem Site.setHold_supplyIn (n : SegId) (x : HoldSet) : (Site.setHold n x e).supplyIn = e.supplyIn := rfl
@[simp] theorem Site.setHold_table (n : SegId) (x : HoldSet) : (Site.setHold n x e).table = e.table := rfl
@[simp] theorem Site.setHold_sampleEnd (n : SegId) (x : HoldSet) : (Site.setHold n x e).sampleEnd = e.sampleEnd := rfl
@[simp] theorem Site.setHold_triggers (n : SegId) (x : HoldSet) : (Site.setHold n x e).triggers = e.triggers := rfl
@[simp] theorem Site.setHold_paths (n : SegId) (x : HoldSet) : (Site.setHold n x e).paths = e.paths := rfl
@[simp] theorem Site.setHold_clock (n : SegId) (x : HoldSet) : (Site.setHold n x e).clock = e.clock := rfl
@[simp] theorem Site.setHold_secondEnd (n : SegId) (x : HoldSet) : (Site.setHold n x e).secondEnd = e.secondEnd := rfl
@[simp] theorem Site.setHold_entries (n : SegId) (x : HoldSet) : (Site.setHold n x e).entries = e.entries := rfl
@[simp] theorem Site.setHold_notices (n : SegId) (x : HoldSet) : (Site.setHold n x e).notices = e.notices := rfl
@[simp] theorem Site.setHold_rerenderAt (n : SegId) (x : HoldSet) : (Site.setHold n x e).rerenderAt = e.rerenderAt := rfl
@[simp] theorem Site.setHold_image (n : SegId) (x : HoldSet) : (Site.setHold n x e).image = e.image := rfl
@[simp] theorem Site.setHold_storeOp (n : SegId) (x : HoldSet) : (Site.setHold n x e).storeOp = e.storeOp := rfl
@[simp] theorem Site.setHold_stage (n : SegId) (x : HoldSet) : (Site.setHold n x e).stage = e.stage := rfl
@[simp] theorem Site.setHold_established (n : SegId) (x : HoldSet) : (Site.setHold n x e).established = e.established := rfl
@[simp] theorem Site.setHold_fall (n : SegId) (x : HoldSet) : (Site.setHold n x e).fall = e.fall := rfl
@[simp] theorem Site.setHold_deep (n : SegId) (x : HoldSet) : (Site.setHold n x e).deep = e.deep := rfl
@[simp] theorem Site.setHold_rise (n : SegId) (x : HoldSet) : (Site.setHold n x e).rise = e.rise := rfl
@[simp] theorem Site.setHold_rx (n : SegId) (x : HoldSet) : (Site.setHold n x e).rx = e.rx := rfl
@[simp] theorem Site.setHold_rxLast (n : SegId) (x : HoldSet) : (Site.setHold n x e).rxLast = e.rxLast := rfl
@[simp] theorem Site.setHold_requestPending (n : SegId) (x : HoldSet) : (Site.setHold n x e).requestPending = e.requestPending := rfl
@[simp] theorem Site.setHold_tx (n : SegId) (x : HoldSet) : (Site.setHold n x e).tx = e.tx := rfl
@[simp] theorem Site.setChan_now (n : ChanId) (x : Channel) : (Site.setChan n x e).now = e.now := rfl
@[simp] theorem Site.setChan_phase (n : ChanId) (x : Channel) : (Site.setChan n x e).phase = e.phase := rfl
@[simp] theorem Site.setChan_powerGood (n : ChanId) (x : Channel) : (Site.setChan n x e).powerGood = e.powerGood := rfl
@[simp] theorem Site.setChan_resetLow (n : ChanId) (x : Channel) : (Site.setChan n x e).resetLow = e.resetLow := rfl
@[simp] theorem Site.setChan_strap1 (n : ChanId) (x : Channel) : (Site.setChan n x e).strap1 = e.strap1 := rfl
@[simp] theorem Site.setChan_strap2 (n : ChanId) (x : Channel) : (Site.setChan n x e).strap2 = e.strap2 := rfl
@[simp] theorem Site.setChan_lineRate (n : ChanId) (x : Channel) : (Site.setChan n x e).lineRate = e.lineRate := rfl
@[simp] theorem Site.setChan_startCause (n : ChanId) (x : Channel) : (Site.setChan n x e).startCause = e.startCause := rfl
@[simp] theorem Site.setChan_powerSinceRun (n : ChanId) (x : Channel) : (Site.setChan n x e).powerSinceRun = e.powerSinceRun := rfl
@[simp] theorem Site.setChan_cfg (n : ChanId) (x : Channel) : (Site.setChan n x e).cfg = e.cfg := rfl
@[simp] theorem Site.setChan_holds (n : ChanId) (x : Channel) : (Site.setChan n x e).holds = e.holds := rfl
@[simp] theorem Site.setChan_tbZero (n : ChanId) (x : Channel) : (Site.setChan n x e).tbZero = e.tbZero := rfl
@[simp] theorem Site.setChan_slot (n : ChanId) (x : Channel) : (Site.setChan n x e).slot = e.slot := rfl
@[simp] theorem Site.setChan_channels (n : ChanId) (x : Channel) : (Site.setChan n x e).channels = e.channels.set n x := rfl
@[simp] theorem Site.setChan_codes (n : ChanId) (x : Channel) : (Site.setChan n x e).codes = e.codes := rfl
@[simp] theorem Site.setChan_stations (n : ChanId) (x : Channel) : (Site.setChan n x e).stations = e.stations := rfl
@[simp] theorem Site.setChan_supplyIn (n : ChanId) (x : Channel) : (Site.setChan n x e).supplyIn = e.supplyIn := rfl
@[simp] theorem Site.setChan_table (n : ChanId) (x : Channel) : (Site.setChan n x e).table = e.table := rfl
@[simp] theorem Site.setChan_sampleEnd (n : ChanId) (x : Channel) : (Site.setChan n x e).sampleEnd = e.sampleEnd := rfl
@[simp] theorem Site.setChan_triggers (n : ChanId) (x : Channel) : (Site.setChan n x e).triggers = e.triggers := rfl
@[simp] theorem Site.setChan_paths (n : ChanId) (x : Channel) : (Site.setChan n x e).paths = e.paths := rfl
@[simp] theorem Site.setChan_clock (n : ChanId) (x : Channel) : (Site.setChan n x e).clock = e.clock := rfl
@[simp] theorem Site.setChan_secondEnd (n : ChanId) (x : Channel) : (Site.setChan n x e).secondEnd = e.secondEnd := rfl
@[simp] theorem Site.setChan_entries (n : ChanId) (x : Channel) : (Site.setChan n x e).entries = e.entries := rfl
@[simp] theorem Site.setChan_notices (n : ChanId) (x : Channel) : (Site.setChan n x e).notices = e.notices := rfl
@[simp] theorem Site.setChan_rerenderAt (n : ChanId) (x : Channel) : (Site.setChan n x e).rerenderAt = e.rerenderAt := rfl
@[simp] theorem Site.setChan_image (n : ChanId) (x : Channel) : (Site.setChan n x e).image = e.image := rfl
@[simp] theorem Site.setChan_storeOp (n : ChanId) (x : Channel) : (Site.setChan n x e).storeOp = e.storeOp := rfl
@[simp] theorem Site.setChan_stage (n : ChanId) (x : Channel) : (Site.setChan n x e).stage = e.stage := rfl
@[simp] theorem Site.setChan_established (n : ChanId) (x : Channel) : (Site.setChan n x e).established = e.established := rfl
@[simp] theorem Site.setChan_fall (n : ChanId) (x : Channel) : (Site.setChan n x e).fall = e.fall := rfl
@[simp] theorem Site.setChan_deep (n : ChanId) (x : Channel) : (Site.setChan n x e).deep = e.deep := rfl
@[simp] theorem Site.setChan_rise (n : ChanId) (x : Channel) : (Site.setChan n x e).rise = e.rise := rfl
@[simp] theorem Site.setChan_rx (n : ChanId) (x : Channel) : (Site.setChan n x e).rx = e.rx := rfl
@[simp] theorem Site.setChan_rxLast (n : ChanId) (x : Channel) : (Site.setChan n x e).rxLast = e.rxLast := rfl
@[simp] theorem Site.setChan_requestPending (n : ChanId) (x : Channel) : (Site.setChan n x e).requestPending = e.requestPending := rfl
@[simp] theorem Site.setChan_tx (n : ChanId) (x : Channel) : (Site.setChan n x e).tx = e.tx := rfl
@[simp] theorem Site.setStation_now (n : StationId) (x : Station) : (Site.setStation n x e).now = e.now := rfl
@[simp] theorem Site.setStation_phase (n : StationId) (x : Station) : (Site.setStation n x e).phase = e.phase := rfl
@[simp] theorem Site.setStation_powerGood (n : StationId) (x : Station) : (Site.setStation n x e).powerGood = e.powerGood := rfl
@[simp] theorem Site.setStation_resetLow (n : StationId) (x : Station) : (Site.setStation n x e).resetLow = e.resetLow := rfl
@[simp] theorem Site.setStation_strap1 (n : StationId) (x : Station) : (Site.setStation n x e).strap1 = e.strap1 := rfl
@[simp] theorem Site.setStation_strap2 (n : StationId) (x : Station) : (Site.setStation n x e).strap2 = e.strap2 := rfl
@[simp] theorem Site.setStation_lineRate (n : StationId) (x : Station) : (Site.setStation n x e).lineRate = e.lineRate := rfl
@[simp] theorem Site.setStation_startCause (n : StationId) (x : Station) : (Site.setStation n x e).startCause = e.startCause := rfl
@[simp] theorem Site.setStation_powerSinceRun (n : StationId) (x : Station) : (Site.setStation n x e).powerSinceRun = e.powerSinceRun := rfl
@[simp] theorem Site.setStation_cfg (n : StationId) (x : Station) : (Site.setStation n x e).cfg = e.cfg := rfl
@[simp] theorem Site.setStation_holds (n : StationId) (x : Station) : (Site.setStation n x e).holds = e.holds := rfl
@[simp] theorem Site.setStation_tbZero (n : StationId) (x : Station) : (Site.setStation n x e).tbZero = e.tbZero := rfl
@[simp] theorem Site.setStation_slot (n : StationId) (x : Station) : (Site.setStation n x e).slot = e.slot := rfl
@[simp] theorem Site.setStation_channels (n : StationId) (x : Station) : (Site.setStation n x e).channels = e.channels := rfl
@[simp] theorem Site.setStation_codes (n : StationId) (x : Station) : (Site.setStation n x e).codes = e.codes := rfl
@[simp] theorem Site.setStation_stations (n : StationId) (x : Station) : (Site.setStation n x e).stations = e.stations.set n x := rfl
@[simp] theorem Site.setStation_supplyIn (n : StationId) (x : Station) : (Site.setStation n x e).supplyIn = e.supplyIn := rfl
@[simp] theorem Site.setStation_table (n : StationId) (x : Station) : (Site.setStation n x e).table = e.table := rfl
@[simp] theorem Site.setStation_sampleEnd (n : StationId) (x : Station) : (Site.setStation n x e).sampleEnd = e.sampleEnd := rfl
@[simp] theorem Site.setStation_triggers (n : StationId) (x : Station) : (Site.setStation n x e).triggers = e.triggers := rfl
@[simp] theorem Site.setStation_paths (n : StationId) (x : Station) : (Site.setStation n x e).paths = e.paths := rfl
@[simp] theorem Site.setStation_clock (n : StationId) (x : Station) : (Site.setStation n x e).clock = e.clock := rfl
@[simp] theorem Site.setStation_secondEnd (n : StationId) (x : Station) : (Site.setStation n x e).secondEnd = e.secondEnd := rfl
@[simp] theorem Site.setStation_entries (n : StationId) (x : Station) : (Site.setStation n x e).entries = e.entries := rfl
@[simp] theorem Site.setStation_notices (n : StationId) (x : Station) : (Site.setStation n x e).notices = e.notices := rfl
@[simp] theorem Site.setStation_rerenderAt (n : StationId) (x : Station) : (Site.setStation n x e).rerenderAt = e.rerenderAt := rfl
@[simp] theorem Site.setStation_image (n : StationId) (x : Station) : (Site.setStation n x e).image = e.image := rfl
@[simp] theorem Site.setStation_storeOp (n : StationId) (x : Station) : (Site.setStation n x e).storeOp = e.storeOp := rfl
@[simp] theorem Site.setStation_stage (n : StationId) (x : Station) : (Site.setStation n x e).stage = e.stage := rfl
@[simp] theorem Site.setStation_established (n : StationId) (x : Station) : (Site.setStation n x e).established = e.established := rfl
@[simp] theorem Site.setStation_fall (n : StationId) (x : Station) : (Site.setStation n x e).fall = e.fall := rfl
@[simp] theorem Site.setStation_deep (n : StationId) (x : Station) : (Site.setStation n x e).deep = e.deep := rfl
@[simp] theorem Site.setStation_rise (n : StationId) (x : Station) : (Site.setStation n x e).rise = e.rise := rfl
@[simp] theorem Site.setStation_rx (n : StationId) (x : Station) : (Site.setStation n x e).rx = e.rx := rfl
@[simp] theorem Site.setStation_rxLast (n : StationId) (x : Station) : (Site.setStation n x e).rxLast = e.rxLast := rfl
@[simp] theorem Site.setStation_requestPending (n : StationId) (x : Station) : (Site.setStation n x e).requestPending = e.requestPending := rfl
@[simp] theorem Site.setStation_tx (n : StationId) (x : Station) : (Site.setStation n x e).tx = e.tx := rfl
@[simp] theorem Site.setTrigger_now (n : TrigId) (x : Trigger) : (Site.setTrigger n x e).now = e.now := rfl
@[simp] theorem Site.setTrigger_phase (n : TrigId) (x : Trigger) : (Site.setTrigger n x e).phase = e.phase := rfl
@[simp] theorem Site.setTrigger_powerGood (n : TrigId) (x : Trigger) : (Site.setTrigger n x e).powerGood = e.powerGood := rfl
@[simp] theorem Site.setTrigger_resetLow (n : TrigId) (x : Trigger) : (Site.setTrigger n x e).resetLow = e.resetLow := rfl
@[simp] theorem Site.setTrigger_strap1 (n : TrigId) (x : Trigger) : (Site.setTrigger n x e).strap1 = e.strap1 := rfl
@[simp] theorem Site.setTrigger_strap2 (n : TrigId) (x : Trigger) : (Site.setTrigger n x e).strap2 = e.strap2 := rfl
@[simp] theorem Site.setTrigger_lineRate (n : TrigId) (x : Trigger) : (Site.setTrigger n x e).lineRate = e.lineRate := rfl
@[simp] theorem Site.setTrigger_startCause (n : TrigId) (x : Trigger) : (Site.setTrigger n x e).startCause = e.startCause := rfl
@[simp] theorem Site.setTrigger_powerSinceRun (n : TrigId) (x : Trigger) : (Site.setTrigger n x e).powerSinceRun = e.powerSinceRun := rfl
@[simp] theorem Site.setTrigger_cfg (n : TrigId) (x : Trigger) : (Site.setTrigger n x e).cfg = e.cfg := rfl
@[simp] theorem Site.setTrigger_holds (n : TrigId) (x : Trigger) : (Site.setTrigger n x e).holds = e.holds := rfl
@[simp] theorem Site.setTrigger_tbZero (n : TrigId) (x : Trigger) : (Site.setTrigger n x e).tbZero = e.tbZero := rfl
@[simp] theorem Site.setTrigger_slot (n : TrigId) (x : Trigger) : (Site.setTrigger n x e).slot = e.slot := rfl
@[simp] theorem Site.setTrigger_channels (n : TrigId) (x : Trigger) : (Site.setTrigger n x e).channels = e.channels := rfl
@[simp] theorem Site.setTrigger_codes (n : TrigId) (x : Trigger) : (Site.setTrigger n x e).codes = e.codes := rfl
@[simp] theorem Site.setTrigger_stations (n : TrigId) (x : Trigger) : (Site.setTrigger n x e).stations = e.stations := rfl
@[simp] theorem Site.setTrigger_supplyIn (n : TrigId) (x : Trigger) : (Site.setTrigger n x e).supplyIn = e.supplyIn := rfl
@[simp] theorem Site.setTrigger_table (n : TrigId) (x : Trigger) : (Site.setTrigger n x e).table = e.table := rfl
@[simp] theorem Site.setTrigger_sampleEnd (n : TrigId) (x : Trigger) : (Site.setTrigger n x e).sampleEnd = e.sampleEnd := rfl
@[simp] theorem Site.setTrigger_triggers (n : TrigId) (x : Trigger) : (Site.setTrigger n x e).triggers = e.triggers.set n x := rfl
@[simp] theorem Site.setTrigger_paths (n : TrigId) (x : Trigger) : (Site.setTrigger n x e).paths = e.paths := rfl
@[simp] theorem Site.setTrigger_clock (n : TrigId) (x : Trigger) : (Site.setTrigger n x e).clock = e.clock := rfl
@[simp] theorem Site.setTrigger_secondEnd (n : TrigId) (x : Trigger) : (Site.setTrigger n x e).secondEnd = e.secondEnd := rfl
@[simp] theorem Site.setTrigger_entries (n : TrigId) (x : Trigger) : (Site.setTrigger n x e).entries = e.entries := rfl
@[simp] theorem Site.setTrigger_notices (n : TrigId) (x : Trigger) : (Site.setTrigger n x e).notices = e.notices := rfl
@[simp] theorem Site.setTrigger_rerenderAt (n : TrigId) (x : Trigger) : (Site.setTrigger n x e).rerenderAt = e.rerenderAt := rfl
@[simp] theorem Site.setTrigger_image (n : TrigId) (x : Trigger) : (Site.setTrigger n x e).image = e.image := rfl
@[simp] theorem Site.setTrigger_storeOp (n : TrigId) (x : Trigger) : (Site.setTrigger n x e).storeOp = e.storeOp := rfl
@[simp] theorem Site.setTrigger_stage (n : TrigId) (x : Trigger) : (Site.setTrigger n x e).stage = e.stage := rfl
@[simp] theorem Site.setTrigger_established (n : TrigId) (x : Trigger) : (Site.setTrigger n x e).established = e.established := rfl
@[simp] theorem Site.setTrigger_fall (n : TrigId) (x : Trigger) : (Site.setTrigger n x e).fall = e.fall := rfl
@[simp] theorem Site.setTrigger_deep (n : TrigId) (x : Trigger) : (Site.setTrigger n x e).deep = e.deep := rfl
@[simp] theorem Site.setTrigger_rise (n : TrigId) (x : Trigger) : (Site.setTrigger n x e).rise = e.rise := rfl
@[simp] theorem Site.setTrigger_rx (n : TrigId) (x : Trigger) : (Site.setTrigger n x e).rx = e.rx := rfl
@[simp] theorem Site.setTrigger_rxLast (n : TrigId) (x : Trigger) : (Site.setTrigger n x e).rxLast = e.rxLast := rfl
@[simp] theorem Site.setTrigger_requestPending (n : TrigId) (x : Trigger) : (Site.setTrigger n x e).requestPending = e.requestPending := rfl
@[simp] theorem Site.setTrigger_tx (n : TrigId) (x : Trigger) : (Site.setTrigger n x e).tx = e.tx := rfl
@[simp] theorem Site.setPath_now (n : PathId) (x : Path) : (Site.setPath n x e).now = e.now := rfl
@[simp] theorem Site.setPath_phase (n : PathId) (x : Path) : (Site.setPath n x e).phase = e.phase := rfl
@[simp] theorem Site.setPath_powerGood (n : PathId) (x : Path) : (Site.setPath n x e).powerGood = e.powerGood := rfl
@[simp] theorem Site.setPath_resetLow (n : PathId) (x : Path) : (Site.setPath n x e).resetLow = e.resetLow := rfl
@[simp] theorem Site.setPath_strap1 (n : PathId) (x : Path) : (Site.setPath n x e).strap1 = e.strap1 := rfl
@[simp] theorem Site.setPath_strap2 (n : PathId) (x : Path) : (Site.setPath n x e).strap2 = e.strap2 := rfl
@[simp] theorem Site.setPath_lineRate (n : PathId) (x : Path) : (Site.setPath n x e).lineRate = e.lineRate := rfl
@[simp] theorem Site.setPath_startCause (n : PathId) (x : Path) : (Site.setPath n x e).startCause = e.startCause := rfl
@[simp] theorem Site.setPath_powerSinceRun (n : PathId) (x : Path) : (Site.setPath n x e).powerSinceRun = e.powerSinceRun := rfl
@[simp] theorem Site.setPath_cfg (n : PathId) (x : Path) : (Site.setPath n x e).cfg = e.cfg := rfl
@[simp] theorem Site.setPath_holds (n : PathId) (x : Path) : (Site.setPath n x e).holds = e.holds := rfl
@[simp] theorem Site.setPath_tbZero (n : PathId) (x : Path) : (Site.setPath n x e).tbZero = e.tbZero := rfl
@[simp] theorem Site.setPath_slot (n : PathId) (x : Path) : (Site.setPath n x e).slot = e.slot := rfl
@[simp] theorem Site.setPath_channels (n : PathId) (x : Path) : (Site.setPath n x e).channels = e.channels := rfl
@[simp] theorem Site.setPath_codes (n : PathId) (x : Path) : (Site.setPath n x e).codes = e.codes := rfl
@[simp] theorem Site.setPath_stations (n : PathId) (x : Path) : (Site.setPath n x e).stations = e.stations := rfl
@[simp] theorem Site.setPath_supplyIn (n : PathId) (x : Path) : (Site.setPath n x e).supplyIn = e.supplyIn := rfl
@[simp] theorem Site.setPath_table (n : PathId) (x : Path) : (Site.setPath n x e).table = e.table := rfl
@[simp] theorem Site.setPath_sampleEnd (n : PathId) (x : Path) : (Site.setPath n x e).sampleEnd = e.sampleEnd := rfl
@[simp] theorem Site.setPath_triggers (n : PathId) (x : Path) : (Site.setPath n x e).triggers = e.triggers := rfl
@[simp] theorem Site.setPath_paths (n : PathId) (x : Path) : (Site.setPath n x e).paths = e.paths.set n x := rfl
@[simp] theorem Site.setPath_clock (n : PathId) (x : Path) : (Site.setPath n x e).clock = e.clock := rfl
@[simp] theorem Site.setPath_secondEnd (n : PathId) (x : Path) : (Site.setPath n x e).secondEnd = e.secondEnd := rfl
@[simp] theorem Site.setPath_entries (n : PathId) (x : Path) : (Site.setPath n x e).entries = e.entries := rfl
@[simp] theorem Site.setPath_notices (n : PathId) (x : Path) : (Site.setPath n x e).notices = e.notices := rfl
@[simp] theorem Site.setPath_rerenderAt (n : PathId) (x : Path) : (Site.setPath n x e).rerenderAt = e.rerenderAt := rfl
@[simp] theorem Site.setPath_image (n : PathId) (x : Path) : (Site.setPath n x e).image = e.image := rfl
@[simp] theorem Site.setPath_storeOp (n : PathId) (x : Path) : (Site.setPath n x e).storeOp = e.storeOp := rfl
@[simp] theorem Site.setPath_stage (n : PathId) (x : Path) : (Site.setPath n x e).stage = e.stage := rfl
@[simp] theorem Site.setPath_established (n : PathId) (x : Path) : (Site.setPath n x e).established = e.established := rfl
@[simp] theorem Site.setPath_fall (n : PathId) (x : Path) : (Site.setPath n x e).fall = e.fall := rfl
@[simp] theorem Site.setPath_deep (n : PathId) (x : Path) : (Site.setPath n x e).deep = e.deep := rfl
@[simp] theorem Site.setPath_rise (n : PathId) (x : Path) : (Site.setPath n x e).rise = e.rise := rfl
@[simp] theorem Site.setPath_rx (n : PathId) (x : Path) : (Site.setPath n x e).rx = e.rx := rfl
@[simp] theorem Site.setPath_rxLast (n : PathId) (x : Path) : (Site.setPath n x e).rxLast = e.rxLast := rfl
@[simp] theorem Site.setPath_requestPending (n : PathId) (x : Path) : (Site.setPath n x e).requestPending = e.requestPending := rfl
@[simp] theorem Site.setPath_tx (n : PathId) (x : Path) : (Site.setPath n x e).tx = e.tx := rfl
@[simp] theorem Site.setEntry_now (n : EntryId) (x : SchedState) : (Site.setEntry n x e).now = e.now := rfl
@[simp] theorem Site.setEntry_phase (n : EntryId) (x : SchedState) : (Site.setEntry n x e).phase = e.phase := rfl
@[simp] theorem Site.setEntry_powerGood (n : EntryId) (x : SchedState) : (Site.setEntry n x e).powerGood = e.powerGood := rfl
@[simp] theorem Site.setEntry_resetLow (n : EntryId) (x : SchedState) : (Site.setEntry n x e).resetLow = e.resetLow := rfl
@[simp] theorem Site.setEntry_strap1 (n : EntryId) (x : SchedState) : (Site.setEntry n x e).strap1 = e.strap1 := rfl
@[simp] theorem Site.setEntry_strap2 (n : EntryId) (x : SchedState) : (Site.setEntry n x e).strap2 = e.strap2 := rfl
@[simp] theorem Site.setEntry_lineRate (n : EntryId) (x : SchedState) : (Site.setEntry n x e).lineRate = e.lineRate := rfl
@[simp] theorem Site.setEntry_startCause (n : EntryId) (x : SchedState) : (Site.setEntry n x e).startCause = e.startCause := rfl
@[simp] theorem Site.setEntry_powerSinceRun (n : EntryId) (x : SchedState) : (Site.setEntry n x e).powerSinceRun = e.powerSinceRun := rfl
@[simp] theorem Site.setEntry_cfg (n : EntryId) (x : SchedState) : (Site.setEntry n x e).cfg = e.cfg := rfl
@[simp] theorem Site.setEntry_holds (n : EntryId) (x : SchedState) : (Site.setEntry n x e).holds = e.holds := rfl
@[simp] theorem Site.setEntry_tbZero (n : EntryId) (x : SchedState) : (Site.setEntry n x e).tbZero = e.tbZero := rfl
@[simp] theorem Site.setEntry_slot (n : EntryId) (x : SchedState) : (Site.setEntry n x e).slot = e.slot := rfl
@[simp] theorem Site.setEntry_channels (n : EntryId) (x : SchedState) : (Site.setEntry n x e).channels = e.channels := rfl
@[simp] theorem Site.setEntry_codes (n : EntryId) (x : SchedState) : (Site.setEntry n x e).codes = e.codes := rfl
@[simp] theorem Site.setEntry_stations (n : EntryId) (x : SchedState) : (Site.setEntry n x e).stations = e.stations := rfl
@[simp] theorem Site.setEntry_supplyIn (n : EntryId) (x : SchedState) : (Site.setEntry n x e).supplyIn = e.supplyIn := rfl
@[simp] theorem Site.setEntry_table (n : EntryId) (x : SchedState) : (Site.setEntry n x e).table = e.table := rfl
@[simp] theorem Site.setEntry_sampleEnd (n : EntryId) (x : SchedState) : (Site.setEntry n x e).sampleEnd = e.sampleEnd := rfl
@[simp] theorem Site.setEntry_triggers (n : EntryId) (x : SchedState) : (Site.setEntry n x e).triggers = e.triggers := rfl
@[simp] theorem Site.setEntry_paths (n : EntryId) (x : SchedState) : (Site.setEntry n x e).paths = e.paths := rfl
@[simp] theorem Site.setEntry_clock (n : EntryId) (x : SchedState) : (Site.setEntry n x e).clock = e.clock := rfl
@[simp] theorem Site.setEntry_secondEnd (n : EntryId) (x : SchedState) : (Site.setEntry n x e).secondEnd = e.secondEnd := rfl
@[simp] theorem Site.setEntry_entries (n : EntryId) (x : SchedState) : (Site.setEntry n x e).entries = e.entries.set n x := rfl
@[simp] theorem Site.setEntry_notices (n : EntryId) (x : SchedState) : (Site.setEntry n x e).notices = e.notices := rfl
@[simp] theorem Site.setEntry_rerenderAt (n : EntryId) (x : SchedState) : (Site.setEntry n x e).rerenderAt = e.rerenderAt := rfl
@[simp] theorem Site.setEntry_image (n : EntryId) (x : SchedState) : (Site.setEntry n x e).image = e.image := rfl
@[simp] theorem Site.setEntry_storeOp (n : EntryId) (x : SchedState) : (Site.setEntry n x e).storeOp = e.storeOp := rfl
@[simp] theorem Site.setEntry_stage (n : EntryId) (x : SchedState) : (Site.setEntry n x e).stage = e.stage := rfl
@[simp] theorem Site.setEntry_established (n : EntryId) (x : SchedState) : (Site.setEntry n x e).established = e.established := rfl
@[simp] theorem Site.setEntry_fall (n : EntryId) (x : SchedState) : (Site.setEntry n x e).fall = e.fall := rfl
@[simp] theorem Site.setEntry_deep (n : EntryId) (x : SchedState) : (Site.setEntry n x e).deep = e.deep := rfl
@[simp] theorem Site.setEntry_rise (n : EntryId) (x : SchedState) : (Site.setEntry n x e).rise = e.rise := rfl
@[simp] theorem Site.setEntry_rx (n : EntryId) (x : SchedState) : (Site.setEntry n x e).rx = e.rx := rfl
@[simp] theorem Site.setEntry_rxLast (n : EntryId) (x : SchedState) : (Site.setEntry n x e).rxLast = e.rxLast := rfl
@[simp] theorem Site.setEntry_requestPending (n : EntryId) (x : SchedState) : (Site.setEntry n x e).requestPending = e.requestPending := rfl
@[simp] theorem Site.setEntry_tx (n : EntryId) (x : SchedState) : (Site.setEntry n x e).tx = e.tx := rfl
theorem Site.hold_setHold (n : SegId) (x : HoldSet) (m : SegId) :
    (Site.setHold n x e).hold m = if m = n then x else e.hold m := by
  simp [Site.hold, Site.setHold, Vector.getElem_set, Fin.ext_iff, eq_comm]
@[simp] theorem Site.hold_setHold_same (n : SegId) (x : HoldSet) : (Site.setHold n x e).hold n = x := by
  simp [Site.hold_setHold]
theorem Site.chan_setChan (n : ChanId) (x : Channel) (m : ChanId) :
    (Site.setChan n x e).chan m = if m = n then x else e.chan m := by
  simp [Site.chan, Site.setChan, Vector.getElem_set, Fin.ext_iff, eq_comm]
@[simp] theorem Site.chan_setChan_same (n : ChanId) (x : Channel) : (Site.setChan n x e).chan n = x := by
  simp [Site.chan_setChan]
theorem Site.station_setStation (n : StationId) (x : Station) (m : StationId) :
    (Site.setStation n x e).station m = if m = n then x else e.station m := by
  simp [Site.station, Site.setStation, Vector.getElem_set, Fin.ext_iff, eq_comm]
@[simp] theorem Site.station_setStation_same (n : StationId) (x : Station) : (Site.setStation n x e).station n = x := by
  simp [Site.station_setStation]
theorem Site.trigger_setTrigger (n : TrigId) (x : Trigger) (m : TrigId) :
    (Site.setTrigger n x e).trigger m = if m = n then x else e.trigger m := by
  simp [Site.trigger, Site.setTrigger, Vector.getElem_set, Fin.ext_iff, eq_comm]
@[simp] theorem Site.trigger_setTrigger_same (n : TrigId) (x : Trigger) : (Site.setTrigger n x e).trigger n = x := by
  simp [Site.trigger_setTrigger]
theorem Site.path_setPath (n : PathId) (x : Path) (m : PathId) :
    (Site.setPath n x e).path m = if m = n then x else e.path m := by
  simp [Site.path, Site.setPath, Vector.getElem_set, Fin.ext_iff, eq_comm]
@[simp] theorem Site.path_setPath_same (n : PathId) (x : Path) : (Site.setPath n x e).path n = x := by
  simp [Site.path_setPath]
theorem Site.entry_setEntry (n : EntryId) (x : SchedState) (m : EntryId) :
    (Site.setEntry n x e).entry m = if m = n then x else e.entry m := by
  simp [Site.entry, Site.setEntry, Vector.getElem_set, Fin.ext_iff, eq_comm]
@[simp] theorem Site.entry_setEntry_same (n : EntryId) (x : SchedState) : (Site.setEntry n x e).entry n = x := by
  simp [Site.entry_setEntry]

/-! ## Gates and timebases -/

variable (x : Gate)

@[simp] theorem Gate.stopped_state : x.stopped.state = x.state := rfl
@[simp] theorem Gate.stopped_target : x.stopped.target = x.target := rfl
@[simp] theorem Gate.stopped_retryCount : x.stopped.retryCount = x.retryCount := rfl
@[simp] theorem Gate.stopped_permit : x.stopped.permit = false := rfl
@[simp] theorem Gate.stopped_duty : x.stopped.duty = 0 := rfl
@[simp] theorem Gate.stopped_driven : x.stopped.driven = 0 := rfl
@[simp] theorem Gate.stopped_dutyAt : x.stopped.dutyAt = 0 := rfl
@[simp] theorem Gate.stopped_fault : x.stopped.fault = x.fault := rfl
@[simp] theorem Gate.stopped_travelTimer : x.stopped.travelTimer = none := rfl
@[simp] theorem Gate.stopped_pauseTimer : x.stopped.pauseTimer = none := rfl
@[simp] theorem Gate.stopped_holdOffTimer : x.stopped.holdOffTimer = none := rfl
@[simp] theorem Gate.stopped_retryTimer : x.stopped.retryTimer = none := rfl
@[simp] theorem Gate.stopped_displaceTimer : x.stopped.displaceTimer = none := rfl
@[simp] theorem Gate.stopped_rampTimer : x.stopped.rampTimer = none := rfl
@[simp] theorem Gate.stopped_upLimit : x.stopped.upLimit = x.upLimit := rfl
@[simp] theorem Gate.stopped_downLimit : x.stopped.downLimit = x.downLimit := rfl
@[simp] theorem Gate.stopped_presence : x.stopped.presence = x.presence := rfl
@[simp] theorem Gate.stopped_trip : x.stopped.trip = x.trip := rfl
@[simp] theorem Gate.writeDuty_state (now d : Nat) : (x.writeDuty now d).state = x.state := rfl
@[simp] theorem Gate.writeDuty_target (now d : Nat) : (x.writeDuty now d).target = x.target := rfl
@[simp] theorem Gate.writeDuty_retryCount (now d : Nat) : (x.writeDuty now d).retryCount = x.retryCount := rfl
@[simp] theorem Gate.writeDuty_permit (now d : Nat) : (x.writeDuty now d).permit = x.permit := rfl
@[simp] theorem Gate.writeDuty_duty (now d : Nat) : (x.writeDuty now d).duty = d := rfl
@[simp] theorem Gate.writeDuty_driven (now d : Nat) : (x.writeDuty now d).driven = x.inForce now := rfl
@[simp] theorem Gate.writeDuty_dutyAt (now d : Nat) : (x.writeDuty now d).dutyAt = now := rfl
@[simp] theorem Gate.writeDuty_fault (now d : Nat) : (x.writeDuty now d).fault = x.fault := rfl
@[simp] theorem Gate.writeDuty_travelTimer (now d : Nat) : (x.writeDuty now d).travelTimer = x.travelTimer := rfl
@[simp] theorem Gate.writeDuty_pauseTimer (now d : Nat) : (x.writeDuty now d).pauseTimer = x.pauseTimer := rfl
@[simp] theorem Gate.writeDuty_holdOffTimer (now d : Nat) : (x.writeDuty now d).holdOffTimer = x.holdOffTimer := rfl
@[simp] theorem Gate.writeDuty_retryTimer (now d : Nat) : (x.writeDuty now d).retryTimer = x.retryTimer := rfl
@[simp] theorem Gate.writeDuty_displaceTimer (now d : Nat) : (x.writeDuty now d).displaceTimer = x.displaceTimer := rfl
@[simp] theorem Gate.writeDuty_rampTimer (now d : Nat) : (x.writeDuty now d).rampTimer = x.rampTimer := rfl
@[simp] theorem Gate.writeDuty_upLimit (now d : Nat) : (x.writeDuty now d).upLimit = x.upLimit := rfl
@[simp] theorem Gate.writeDuty_downLimit (now d : Nat) : (x.writeDuty now d).downLimit = x.downLimit := rfl
@[simp] theorem Gate.writeDuty_presence (now d : Nat) : (x.writeDuty now d).presence = x.presence := rfl
@[simp] theorem Gate.writeDuty_trip (now d : Nat) : (x.writeDuty now d).trip = x.trip := rfl
@[simp] theorem Site.passTb_now (t : TbId) (n k : Nat) : (e.passTb t n k).now = e.now := rfl
@[simp] theorem Site.passTb_phase (t : TbId) (n k : Nat) : (e.passTb t n k).phase = e.phase := rfl
@[simp] theorem Site.passTb_powerGood (t : TbId) (n k : Nat) : (e.passTb t n k).powerGood = e.powerGood := rfl
@[simp] theorem Site.passTb_resetLow (t : TbId) (n k : Nat) : (e.passTb t n k).resetLow = e.resetLow := rfl
@[simp] theorem Site.passTb_strap1 (t : TbId) (n k : Nat) : (e.passTb t n k).strap1 = e.strap1 := rfl
@[simp] theorem Site.passTb_strap2 (t : TbId) (n k : Nat) : (e.passTb t n k).strap2 = e.strap2 := rfl
@[simp] theorem Site.passTb_lineRate (t : TbId) (n k : Nat) : (e.passTb t n k).lineRate = e.lineRate := rfl
@[simp] theorem Site.passTb_startCause (t : TbId) (n k : Nat) : (e.passTb t n k).startCause = e.startCause := rfl
@[simp] theorem Site.passTb_powerSinceRun (t : TbId) (n k : Nat) : (e.passTb t n k).powerSinceRun = e.powerSinceRun := rfl
@[simp] theorem Site.passTb_cfg (t : TbId) (n k : Nat) : (e.passTb t n k).cfg = e.cfg := rfl
@[simp] theorem Site.passTb_holds (t : TbId) (n k : Nat) : (e.passTb t n k).holds = e.holds := rfl
@[simp] theorem Site.passTb_tbZero (t : TbId) (n k : Nat) : (e.passTb t n k).tbZero = e.tbZero.set t (e.tbZero[t] + n * k) := rfl
@[simp] theorem Site.passTb_slot (t : TbId) (n k : Nat) : (e.passTb t n k).slot = e.slot := rfl
@[simp] theorem Site.passTb_channels (t : TbId) (n k : Nat) : (e.passTb t n k).channels = e.channels := rfl
@[simp] theorem Site.passTb_codes (t : TbId) (n k : Nat) : (e.passTb t n k).codes = e.codes := rfl
@[simp] theorem Site.passTb_stations (t : TbId) (n k : Nat) : (e.passTb t n k).stations = e.stations := rfl
@[simp] theorem Site.passTb_supplyIn (t : TbId) (n k : Nat) : (e.passTb t n k).supplyIn = e.supplyIn := rfl
@[simp] theorem Site.passTb_table (t : TbId) (n k : Nat) : (e.passTb t n k).table = e.table := rfl
@[simp] theorem Site.passTb_sampleEnd (t : TbId) (n k : Nat) : (e.passTb t n k).sampleEnd = e.sampleEnd := rfl
@[simp] theorem Site.passTb_triggers (t : TbId) (n k : Nat) : (e.passTb t n k).triggers = e.triggers := rfl
@[simp] theorem Site.passTb_paths (t : TbId) (n k : Nat) : (e.passTb t n k).paths = e.paths := rfl
@[simp] theorem Site.passTb_clock (t : TbId) (n k : Nat) : (e.passTb t n k).clock = e.clock := rfl
@[simp] theorem Site.passTb_secondEnd (t : TbId) (n k : Nat) : (e.passTb t n k).secondEnd = e.secondEnd := rfl
@[simp] theorem Site.passTb_entries (t : TbId) (n k : Nat) : (e.passTb t n k).entries = e.entries := rfl
@[simp] theorem Site.passTb_notices (t : TbId) (n k : Nat) : (e.passTb t n k).notices = e.notices := rfl
@[simp] theorem Site.passTb_rerenderAt (t : TbId) (n k : Nat) : (e.passTb t n k).rerenderAt = e.rerenderAt := rfl
@[simp] theorem Site.passTb_image (t : TbId) (n k : Nat) : (e.passTb t n k).image = e.image := rfl
@[simp] theorem Site.passTb_storeOp (t : TbId) (n k : Nat) : (e.passTb t n k).storeOp = e.storeOp := rfl
@[simp] theorem Site.passTb_stage (t : TbId) (n k : Nat) : (e.passTb t n k).stage = e.stage := rfl
@[simp] theorem Site.passTb_established (t : TbId) (n k : Nat) : (e.passTb t n k).established = e.established := rfl
@[simp] theorem Site.passTb_fall (t : TbId) (n k : Nat) : (e.passTb t n k).fall = e.fall := rfl
@[simp] theorem Site.passTb_deep (t : TbId) (n k : Nat) : (e.passTb t n k).deep = e.deep := rfl
@[simp] theorem Site.passTb_rise (t : TbId) (n k : Nat) : (e.passTb t n k).rise = e.rise := rfl
@[simp] theorem Site.passTb_rx (t : TbId) (n k : Nat) : (e.passTb t n k).rx = e.rx := rfl
@[simp] theorem Site.passTb_rxLast (t : TbId) (n k : Nat) : (e.passTb t n k).rxLast = e.rxLast := rfl
@[simp] theorem Site.passTb_requestPending (t : TbId) (n k : Nat) : (e.passTb t n k).requestPending = e.requestPending := rfl
@[simp] theorem Site.passTb_tx (t : TbId) (n k : Nat) : (e.passTb t n k).tx = e.tx := rfl
@[simp] theorem Site.zeroTb_now (t : TbId) : (e.zeroTb t).now = e.now := rfl
@[simp] theorem Site.zeroTb_phase (t : TbId) : (e.zeroTb t).phase = e.phase := rfl
@[simp] theorem Site.zeroTb_powerGood (t : TbId) : (e.zeroTb t).powerGood = e.powerGood := rfl
@[simp] theorem Site.zeroTb_resetLow (t : TbId) : (e.zeroTb t).resetLow = e.resetLow := rfl
@[simp] theorem Site.zeroTb_strap1 (t : TbId) : (e.zeroTb t).strap1 = e.strap1 := rfl
@[simp] theorem Site.zeroTb_strap2 (t : TbId) : (e.zeroTb t).strap2 = e.strap2 := rfl
@[simp] theorem Site.zeroTb_lineRate (t : TbId) : (e.zeroTb t).lineRate = e.lineRate := rfl
@[simp] theorem Site.zeroTb_startCause (t : TbId) : (e.zeroTb t).startCause = e.startCause := rfl
@[simp] theorem Site.zeroTb_powerSinceRun (t : TbId) : (e.zeroTb t).powerSinceRun = e.powerSinceRun := rfl
@[simp] theorem Site.zeroTb_cfg (t : TbId) : (e.zeroTb t).cfg = e.cfg := rfl
@[simp] theorem Site.zeroTb_holds (t : TbId) : (e.zeroTb t).holds = e.holds := rfl
@[simp] theorem Site.zeroTb_tbZero (t : TbId) : (e.zeroTb t).tbZero = e.tbZero.set t e.now := rfl
@[simp] theorem Site.zeroTb_slot (t : TbId) : (e.zeroTb t).slot = e.slot := rfl
@[simp] theorem Site.zeroTb_channels (t : TbId) : (e.zeroTb t).channels = e.channels := rfl
@[simp] theorem Site.zeroTb_codes (t : TbId) : (e.zeroTb t).codes = e.codes := rfl
@[simp] theorem Site.zeroTb_stations (t : TbId) : (e.zeroTb t).stations = e.stations := rfl
@[simp] theorem Site.zeroTb_supplyIn (t : TbId) : (e.zeroTb t).supplyIn = e.supplyIn := rfl
@[simp] theorem Site.zeroTb_table (t : TbId) : (e.zeroTb t).table = e.table := rfl
@[simp] theorem Site.zeroTb_sampleEnd (t : TbId) : (e.zeroTb t).sampleEnd = e.sampleEnd := rfl
@[simp] theorem Site.zeroTb_triggers (t : TbId) : (e.zeroTb t).triggers = e.triggers := rfl
@[simp] theorem Site.zeroTb_paths (t : TbId) : (e.zeroTb t).paths = e.paths := rfl
@[simp] theorem Site.zeroTb_clock (t : TbId) : (e.zeroTb t).clock = e.clock := rfl
@[simp] theorem Site.zeroTb_secondEnd (t : TbId) : (e.zeroTb t).secondEnd = e.secondEnd := rfl
@[simp] theorem Site.zeroTb_entries (t : TbId) : (e.zeroTb t).entries = e.entries := rfl
@[simp] theorem Site.zeroTb_notices (t : TbId) : (e.zeroTb t).notices = e.notices := rfl
@[simp] theorem Site.zeroTb_rerenderAt (t : TbId) : (e.zeroTb t).rerenderAt = e.rerenderAt := rfl
@[simp] theorem Site.zeroTb_image (t : TbId) : (e.zeroTb t).image = e.image := rfl
@[simp] theorem Site.zeroTb_storeOp (t : TbId) : (e.zeroTb t).storeOp = e.storeOp := rfl
@[simp] theorem Site.zeroTb_stage (t : TbId) : (e.zeroTb t).stage = e.stage := rfl
@[simp] theorem Site.zeroTb_established (t : TbId) : (e.zeroTb t).established = e.established := rfl
@[simp] theorem Site.zeroTb_fall (t : TbId) : (e.zeroTb t).fall = e.fall := rfl
@[simp] theorem Site.zeroTb_deep (t : TbId) : (e.zeroTb t).deep = e.deep := rfl
@[simp] theorem Site.zeroTb_rise (t : TbId) : (e.zeroTb t).rise = e.rise := rfl
@[simp] theorem Site.zeroTb_rx (t : TbId) : (e.zeroTb t).rx = e.rx := rfl
@[simp] theorem Site.zeroTb_rxLast (t : TbId) : (e.zeroTb t).rxLast = e.rxLast := rfl
@[simp] theorem Site.zeroTb_requestPending (t : TbId) : (e.zeroTb t).requestPending = e.requestPending := rfl
@[simp] theorem Site.zeroTb_tx (t : TbId) : (e.zeroTb t).tx = e.tx := rfl

end Sys2Proof.Machine
end

