-- ==== Sys2Proof/Laws/Holds.lean ====
section
/-! SUPPORT. Hold sets as sets of sources, and what raising and dropping a hold does to Site: the one entry, on an enabled
segment. -/

namespace Sys2Proof.Machine

/-! ## One set -/

/-- Putting one source in or out changes that source alone. -/
theorem HoldSet.has_put (x : HoldSet) (h h' : Hold) (b : Bool) :
    (x.put h b).has h' = if h' = h then b else x.has h' := by
  cases h <;> cases h' <;> simp [HoldSet.put, HoldSet.has, Vector.getElem_set, eq_comm, Fin.ext_iff]

@[simp] theorem HoldSet.has_empty (h : Hold) : ({} : HoldSet).has h = false := by
  cases h <;> simp [HoldSet.has]

/-- Two sets with the same sources are the same set (R5). -/
theorem HoldSet.ext_has {x y : HoldSet} (h : ∀ k, x.has k = y.has k) : x = y := by
  obtain ⟨t, p, z, c, o, r⟩ := x
  obtain ⟨t', p', z', c', o', r'⟩ := y
  have ht : t = t' := by
    ext i hi; exact h (.trigger ⟨i, hi⟩)
  have hp : p = p' := by
    ext i hi; exact h (.path ⟨i, hi⟩)
  have hz : z = z' := by
    ext i hi; exact h (.hazard ⟨i, hi⟩)
  have hc : c = c' := by
    ext i hi; exact h (.schedule ⟨i, hi⟩)
  have ho : o = o' := h .operator
  have hr : r = r' := h .restart
  subst ht hp hz hc ho hr
  rfl

/-- A set is empty where it holds no source. -/
theorem HoldSet.isEmpty_iff (x : HoldSet) : x.isEmpty = true ↔ ∀ h, x.has h = false := by
  constructor
  · intro hx h
    have : x = {} := by simpa [HoldSet.isEmpty] using hx
    rw [this]; exact HoldSet.has_empty h
  · intro hx
    have : x = {} := HoldSet.ext_has fun k => by rw [hx k]; simp
    simp [HoldSet.isEmpty, this]

/-- A set holds an avalanche hold where it holds some PATH. -/
theorem HoldSet.avalanche_iff (x : HoldSet) : x.avalanche = true ↔ ∃ p, x.has (.path p) = true := by
  simp [HoldSet.avalanche, HoldSet.has]

/-! ## Raising and dropping -/

/-- Raising a hold touches the hold sets alone of Site. -/
theorem State.raiseHold_site (x : State) (s : SegId) (h : Hold) :
    (x.raiseHold s h).site = { x.site with holds := (x.raiseHold s h).site.holds } := by
  unfold State.raiseHold; split <;> rfl

/-- Dropping a hold touches the hold sets alone of Site. -/
theorem State.dropHold_site (x : State) (s : SegId) (h : Hold) :
    (x.dropHold s h).site = { x.site with holds := (x.dropHold s h).site.holds } := by
  unfold State.dropHold; split <;> rfl

@[simp] theorem State.raiseHold_pending (x : State) (s : SegId) (h : Hold) : (x.raiseHold s h).pending = x.pending := by
  unfold State.raiseHold; split <;> rfl

@[simp] theorem State.dropHold_pending (x : State) (s : SegId) (h : Hold) : (x.dropHold s h).pending = x.pending := by
  unfold State.dropHold; split <;> rfl

@[simp] theorem State.raiseHold_cfg (x : State) (s : SegId) (h : Hold) : (x.raiseHold s h).site.cfg = x.site.cfg := by
  rw [State.raiseHold_site]

@[simp] theorem State.dropHold_cfg (x : State) (s : SegId) (h : Hold) : (x.dropHold s h).site.cfg = x.site.cfg := by
  rw [State.dropHold_site]

/-- The one entry that raising a hold adds. -/
theorem State.raiseHold_has (x : State) (s n : SegId) (h k : Hold) :
    ((x.raiseHold s h).site.hold n).has k =
      ((x.site.hold n).has k || (decide (n = s) && decide (k = h) && (x.site.segCfg s).enabled)) := by
  unfold State.raiseHold
  by_cases he : (x.site.segCfg s).enabled = true
  · by_cases hh : (x.site.hold s).has h = true
    · by_cases hn : n = s
      · subst hn
        by_cases hk : k = h
        · subst hk; simp [he, hh]
        · simp [he, hh, hk]
      · simp [he, hh, hn]
    · have hh' : (x.site.hold s).has h = false := by simpa using hh
      simp only [he, hh', Bool.not_true, Bool.or_self, Bool.false_eq_true, if_false]
      by_cases hn : n = s
      · subst hn
        rw [Site.hold_setHold_same, HoldSet.has_put]
        by_cases hk : k = h
        · simp [hk]
        · simp [hk]
      · rw [Site.hold_setHold, if_neg hn]
        simp [hn]
  · have he' : (x.site.segCfg s).enabled = false := by simpa using he
    simp [he']

/-- The one entry that dropping a hold removes. -/
theorem State.dropHold_has (x : State) (s n : SegId) (h k : Hold) :
    ((x.dropHold s h).site.hold n).has k =
      ((x.site.hold n).has k && !(decide (n = s) && decide (k = h) && (x.site.segCfg s).enabled)) := by
  unfold State.dropHold
  by_cases he : (x.site.segCfg s).enabled = true
  · by_cases hh : (x.site.hold s).has h = true
    · simp only [he, hh, Bool.not_true, Bool.or_self, Bool.false_eq_true, if_false]
      by_cases hn : n = s
      · subst hn
        rw [Site.hold_setHold_same, HoldSet.has_put]
        by_cases hk : k = h
        · simp [hk]
        · simp [hk]
      · rw [Site.hold_setHold, if_neg hn]
        simp [hn]
    · have hh' : (x.site.hold s).has h = false := by simpa using hh
      by_cases hn : n = s
      · subst hn
        by_cases hk : k = h
        · subst hk; simp [he, hh']
        · simp [he, hh', hk]
      · simp [he, hh', hn]
  · have he' : (x.site.segCfg s).enabled = false := by simpa using he
    simp [he']

/-! ## Several at once -/

/-- Raising holds on one segment after another. -/
theorem raiseFold {β : Type} (seg : β → SegId) (src : β → Hold) (l : List β) (x : State) :
    let y := l.foldl (fun s b => s.raiseHold (seg b) (src b)) x
    y.site = { x.site with holds := y.site.holds } ∧ y.pending = x.pending ∧
      ∀ n k, (y.site.hold n).has k =
        ((x.site.hold n).has k ||
          l.any fun b => decide (n = seg b) && decide (k = src b) && (x.site.segCfg (seg b)).enabled) := by
  induction l generalizing x with
  | nil => simp
  | cons b l ih =>
    obtain ⟨h1, h2, h3⟩ := ih (x.raiseHold (seg b) (src b))
    refine ⟨?_, ?_, ?_⟩
    · rw [List.foldl_cons, h1, State.raiseHold_site]
    · rw [List.foldl_cons, h2, State.raiseHold_pending]
    · intro n k
      rw [List.foldl_cons, h3, State.raiseHold_has]
      simp only [Site.segCfg, State.raiseHold_cfg, List.any_cons, Bool.or_assoc]

/-- Dropping holds from one segment after another. -/
theorem dropFold {β : Type} (seg : β → SegId) (src : β → Hold) (l : List β) (x : State) :
    let y := l.foldl (fun s b => s.dropHold (seg b) (src b)) x
    y.site = { x.site with holds := y.site.holds } ∧ y.pending = x.pending ∧
      ∀ n k, (y.site.hold n).has k =
        ((x.site.hold n).has k &&
          !l.any fun b => decide (n = seg b) && decide (k = src b) && (x.site.segCfg (seg b)).enabled) := by
  induction l generalizing x with
  | nil => simp
  | cons b l ih =>
    obtain ⟨h1, h2, h3⟩ := ih (x.dropHold (seg b) (src b))
    refine ⟨?_, ?_, ?_⟩
    · rw [List.foldl_cons, h1, State.dropHold_site]
    · rw [List.foldl_cons, h2, State.dropHold_pending]
    · intro n k
      rw [List.foldl_cons, h3, State.dropHold_has]
      simp only [Site.segCfg, State.dropHold_cfg, List.any_cons, Bool.not_or, Bool.and_assoc]

/-- A hold raised on the segments of a set stands on exactly the enabled ones more. -/
theorem State.raiseAll_holds (x : State) (set : SegSet) (h : Hold) :
    (x.raiseAll set h).site = { x.site with holds := (x.raiseAll set h).site.holds } ∧
    (x.raiseAll set h).pending = x.pending ∧
    ∀ n k, ((x.raiseAll set h).site.hold n).has k =
      ((x.site.hold n).has k || (hasSeg set n && decide (k = h) && (x.site.segCfg n).enabled)) := by
  have hf := raiseFold (fun b : SegId => b) (fun _ => h) (segsOf set) x
  refine ⟨hf.1, hf.2.1, fun n k => ?_⟩
  refine (hf.2.2 n k).trans ?_
  congr 1
  rw [Bool.eq_iff_iff]
  simp only [List.any_eq_true, Bool.and_eq_true, decide_eq_true_eq, segsOf, List.mem_filter, List.mem_finRange, true_and]
  constructor
  · rintro ⟨b, hb, ⟨rfl, h2⟩, h3⟩; exact ⟨⟨hb, h2⟩, h3⟩
  · rintro ⟨⟨h1, h2⟩, h3⟩; exact ⟨n, h1, ⟨rfl, h2⟩, h3⟩

/-- A hold dropped from the segments of a set stands on exactly the enabled ones less. -/
theorem State.dropAll_holds (x : State) (set : SegSet) (h : Hold) :
    (x.dropAll set h).site = { x.site with holds := (x.dropAll set h).site.holds } ∧
    (x.dropAll set h).pending = x.pending ∧
    ∀ n k, ((x.dropAll set h).site.hold n).has k =
      ((x.site.hold n).has k && !(hasSeg set n && decide (k = h) && (x.site.segCfg n).enabled)) := by
  have hf := dropFold (fun b : SegId => b) (fun _ => h) (segsOf set) x
  refine ⟨hf.1, hf.2.1, fun n k => ?_⟩
  refine (hf.2.2 n k).trans ?_
  congr 2
  rw [Bool.eq_iff_iff]
  simp only [List.any_eq_true, Bool.and_eq_true, decide_eq_true_eq, segsOf, List.mem_filter, List.mem_finRange, true_and]
  constructor
  · rintro ⟨b, hb, ⟨rfl, h2⟩, h3⟩; exact ⟨⟨hb, h2⟩, h3⟩
  · rintro ⟨⟨h1, h2⟩, h3⟩; exact ⟨n, h1, ⟨rfl, h2⟩, h3⟩

end Sys2Proof.Machine
end

