-- ==== Sys2Proof/Laws/PerInstr.lean ====
section
/-! SUPPORT. What every row says as syntax, one lemma for each constructor of Instr. -/

namespace Sys2Proof.Laws.RowOf

open Sys2Proof Sys2Proof.Machine

/-- A kind code that is a row of the catalogue, or the row of frames outside it. -/
def kindFits : Instr → Bool
  | .unknownKind k _ => !catalogue.contains k.toNat
  | i => (frameOf i).all fun x => catalogue.contains x.1.toNat

/-- The kind code of a configuration write is 0x10 to 0x1B (R188). -/
def writeFits (i : Instr) : Bool :=
  !isConfigWrite i || (frameOf i).any fun x => decide (0x10#8 ≤ x.1) && decide (x.1 ≤ 0x1B#8)

/-- A body that does not fit is that of a frame, and has no index to judge; a configuration write has its kind code in the
range of those; and the kind code of a well-formed row is one of the catalogue, but for UNKNOWN_KIND. -/
def Statement (i : Instr) : Prop :=
  (misfits i = true → (frameOf i).isSome = true ∧ i.wellFormed = true ∧ badIndex i = false) ∧ writeFits i = true ∧
    (i.wellFormed = true → kindFits i = true)

/-- A row whose body fits, or that has none. -/
theorem of_fits {i : Instr} (h : misfits i = false) (hw : writeFits i = true) (hk : i.wellFormed = true → kindFits i = true) :
    Statement i := ⟨fun h' => (Bool.false_ne_true (h.symm.trans h')).elim, hw, hk⟩

/-- A row whose body does not fit. -/
theorem of_misfit {i : Instr} (hf : (frameOf i).isSome = true) (ha : i.wellFormed = true) (hb : badIndex i = false)
    (hw : writeFits i = true) (hk : kindFits i = true) : Statement i := ⟨fun _ => ⟨hf, ha, hb⟩, hw, fun _ => hk⟩

theorem getIdentity (tag : Byte) (body : Body Unit) : Statement (.getIdentity tag body) := by
  cases body
  exacts [of_misfit rfl rfl rfl rfl rfl, of_fits rfl rfl fun _ => rfl]
theorem setClock (tag : Byte) (body : Body ClockValue) : Statement (.setClock tag body) := by
  cases body
  exacts [of_misfit rfl rfl rfl rfl rfl, of_fits rfl rfl fun _ => rfl]
theorem getClock (tag : Byte) (body : Body Unit) : Statement (.getClock tag body) := by
  cases body
  exacts [of_misfit rfl rfl rfl rfl rfl, of_fits rfl rfl fun _ => rfl]
theorem putSegment (tag : Byte) (body : Body SegmentReq) : Statement (.putSegment tag body) := by
  cases body
  exacts [of_misfit rfl rfl rfl rfl rfl, of_fits rfl rfl fun _ => rfl]
theorem putGate (tag : Byte) (body : Body GateReq) : Statement (.putGate tag body) := by
  cases body
  exacts [of_misfit rfl rfl rfl rfl rfl, of_fits rfl rfl fun _ => rfl]
theorem putSign (tag : Byte) (body : Body SignReq) : Statement (.putSign tag body) := by
  cases body
  exacts [of_misfit rfl rfl rfl rfl rfl, of_fits rfl rfl fun _ => rfl]
theorem putTimebase (tag : Byte) (body : Body TimebaseReq) : Statement (.putTimebase tag body) := by
  cases body
  exacts [of_misfit rfl rfl rfl rfl rfl, of_fits rfl rfl fun _ => rfl]
theorem putChannel (tag : Byte) (body : Body ChannelReq) : Statement (.putChannel tag body) := by
  cases body
  exacts [of_misfit rfl rfl rfl rfl rfl, of_fits rfl rfl fun _ => rfl]
theorem putStation (tag : Byte) (body : Body StationReq) : Statement (.putStation tag body) := by
  cases body
  exacts [of_misfit rfl rfl rfl rfl rfl, of_fits rfl rfl fun _ => rfl]
theorem putTrigger (tag : Byte) (body : Body TriggerReq) : Statement (.putTrigger tag body) := by
  cases body
  exacts [of_misfit rfl rfl rfl rfl rfl, of_fits rfl rfl fun _ => rfl]
theorem putPath (tag : Byte) (body : Body PathReq) : Statement (.putPath tag body) := by
  cases body
  exacts [of_misfit rfl rfl rfl rfl rfl, of_fits rfl rfl fun _ => rfl]
theorem putSchedule (tag : Byte) (body : Body ScheduleReq) : Statement (.putSchedule tag body) := by
  cases body
  exacts [of_misfit rfl rfl rfl rfl rfl, of_fits rfl rfl fun _ => rfl]
theorem putSupply (tag : Byte) (body : Body SupplyCfg) : Statement (.putSupply tag body) := by
  cases body
  exacts [of_misfit rfl rfl rfl rfl rfl, of_fits rfl rfl fun _ => rfl]
theorem setZone (tag : Byte) (body : Body Int) : Statement (.setZone tag body) := by
  cases body
  exacts [of_misfit rfl rfl rfl rfl rfl, of_fits rfl rfl fun _ => rfl]
theorem setAttention (tag : Byte) (body : Body (Option ReportClass)) : Statement (.setAttention tag body) := by
  cases body
  exacts [of_misfit rfl rfl rfl rfl rfl, of_fits rfl rfl fun _ => rfl]
theorem getRecord (tag : Byte) (body : Body RecordReq) : Statement (.getRecord tag body) := by
  cases body
  exacts [of_misfit rfl rfl rfl rfl rfl, of_fits rfl rfl fun _ => rfl]
theorem saveConfig (tag : Byte) (body : Body Unit) : Statement (.saveConfig tag body) := by
  cases body
  exacts [of_misfit rfl rfl rfl rfl rfl, of_fits rfl rfl fun _ => rfl]
theorem putTemplate (tag : Byte) (body : Body TemplateReq) : Statement (.putTemplate tag body) := by
  cases body
  exacts [of_misfit rfl rfl rfl rfl rfl, of_fits rfl rfl fun _ => rfl]
theorem getTemplate (tag : Byte) (body : Body Nat) : Statement (.getTemplate tag body) := by
  cases body
  exacts [of_misfit rfl rfl rfl rfl rfl, of_fits rfl rfl fun _ => rfl]
theorem closeSegment (tag : Byte) (body : Body Nat) : Statement (.closeSegment tag body) := by
  cases body
  exacts [of_misfit rfl rfl rfl rfl rfl, of_fits rfl rfl fun _ => rfl]
theorem releaseSegment (tag : Byte) (body : Body Nat) : Statement (.releaseSegment tag body) := by
  cases body
  exacts [of_misfit rfl rfl rfl rfl rfl, of_fits rfl rfl fun _ => rfl]
theorem reopenSegment (tag : Byte) (body : Body Nat) : Statement (.reopenSegment tag body) := by
  cases body
  exacts [of_misfit rfl rfl rfl rfl rfl, of_fits rfl rfl fun _ => rfl]
theorem servicePass (tag : Byte) (body : Body PassReq) : Statement (.servicePass tag body) := by
  cases body
  exacts [of_misfit rfl rfl rfl rfl rfl, of_fits rfl rfl fun _ => rfl]
theorem resetGateFault (tag : Byte) (body : Body Nat) : Statement (.resetGateFault tag body) := by
  cases body
  exacts [of_misfit rfl rfl rfl rfl rfl, of_fits rfl rfl fun _ => rfl]
theorem declareHazard (tag : Byte) (body : Body HazardReq) : Statement (.declareHazard tag body) := by
  cases body
  exacts [of_misfit rfl rfl rfl rfl rfl, of_fits rfl rfl fun _ => rfl]
theorem clearPath (tag : Byte) (body : Body Nat) : Statement (.clearPath tag body) := by
  cases body
  exacts [of_misfit rfl rfl rfl rfl rfl, of_fits rfl rfl fun _ => rfl]
theorem postNotice (tag : Byte) (body : Body NoticeReq) : Statement (.postNotice tag body) := by
  cases body
  exacts [of_misfit rfl rfl rfl rfl rfl, of_fits rfl rfl fun _ => rfl]
theorem withdrawNotice (tag : Byte) (body : Body Nat) : Statement (.withdrawNotice tag body) := by
  cases body
  exacts [of_misfit rfl rfl rfl rfl rfl, of_fits rfl rfl fun _ => rfl]
theorem restart (tag : Byte) (body : Body Unit) : Statement (.restart tag body) := by
  cases body
  exacts [of_misfit rfl rfl rfl rfl rfl, of_fits rfl rfl fun _ => rfl]
theorem getSegment (tag : Byte) (body : Body Nat) : Statement (.getSegment tag body) := by
  cases body
  exacts [of_misfit rfl rfl rfl rfl rfl, of_fits rfl rfl fun _ => rfl]
theorem getGate (tag : Byte) (body : Body Nat) : Statement (.getGate tag body) := by
  cases body
  exacts [of_misfit rfl rfl rfl rfl rfl, of_fits rfl rfl fun _ => rfl]
theorem getSign (tag : Byte) (body : Body Nat) : Statement (.getSign tag body) := by
  cases body
  exacts [of_misfit rfl rfl rfl rfl rfl, of_fits rfl rfl fun _ => rfl]
theorem getPath (tag : Byte) (body : Body Nat) : Statement (.getPath tag body) := by
  cases body
  exacts [of_misfit rfl rfl rfl rfl rfl, of_fits rfl rfl fun _ => rfl]
theorem getTrigger (tag : Byte) (body : Body Nat) : Statement (.getTrigger tag body) := by
  cases body
  exacts [of_misfit rfl rfl rfl rfl rfl, of_fits rfl rfl fun _ => rfl]
theorem getQuantities (tag : Byte) (body : Body Unit) : Statement (.getQuantities tag body) := by
  cases body
  exacts [of_misfit rfl rfl rfl rfl rfl, of_fits rfl rfl fun _ => rfl]
theorem getSchedule (tag : Byte) (body : Body Nat) : Statement (.getSchedule tag body) := by
  cases body
  exacts [of_misfit rfl rfl rfl rfl rfl, of_fits rfl rfl fun _ => rfl]
theorem getSupply (tag : Byte) (body : Body Unit) : Statement (.getSupply tag body) := by
  cases body
  exacts [of_misfit rfl rfl rfl rfl rfl, of_fits rfl rfl fun _ => rfl]
theorem fetchReports (tag : Byte) (body : Body Unit) : Statement (.fetchReports tag body) := by
  cases body
  exacts [of_misfit rfl rfl rfl rfl rfl, of_fits rfl rfl fun _ => rfl]
theorem unknownKind (kind tag : Byte) : Statement (.unknownKind kind tag) := of_fits rfl rfl id
theorem cabinetFrameDiscarded (why : Discard) : Statement (.cabinetFrameDiscarded why) := of_fits rfl rfl fun _ => rfl
theorem interByteGapTimeout (b : Byte) : Statement (.interByteGapTimeout b) := of_fits rfl rfl fun _ => rfl
theorem replySent : Statement (.replySent) := of_fits rfl rfl fun _ => rfl
theorem powerOn (strap1 strap2 : Bool) : Statement (.powerOn strap1 strap2) := of_fits rfl rfl fun _ => rfl
theorem brownOut : Statement (.brownOut) := of_fits rfl rfl fun _ => rfl
theorem resetLineLow : Statement (.resetLineLow) := of_fits rfl rfl fun _ => rfl
theorem resetLineHigh (strap1 strap2 : Bool) : Statement (.resetLineHigh strap1 strap2) := of_fits rfl rfl fun _ => rfl
theorem loadingEnd : Statement (.loadingEnd) := of_fits rfl rfl fun _ => rfl
theorem limitSwitchChange (g : GateId) (up down : Bool) :
    Statement (.limitSwitchChange g up down) := of_fits rfl rfl fun _ => rfl
theorem presenceChange (g : GateId) (level : Bool) : Statement (.presenceChange g level) := of_fits rfl rfl fun _ => rfl
theorem driverTrip (g : GateId) (level : Bool) : Statement (.driverTrip g level) := of_fits rfl rfl fun _ => rfl
theorem travelTimeout (g : GateId) : Statement (.travelTimeout g) := of_fits rfl rfl fun _ => rfl
theorem pauseExpiry (g : GateId) : Statement (.pauseExpiry g) := of_fits rfl rfl fun _ => rfl
theorem holdOffExpiry (g : GateId) : Statement (.holdOffExpiry g) := of_fits rfl rfl fun _ => rfl
theorem retryDelayExpiry (g : GateId) : Statement (.retryDelayExpiry g) := of_fits rfl rfl fun _ => rfl
theorem displacementExpiry (g : GateId) : Statement (.displacementExpiry g) := of_fits rfl rfl fun _ => rfl
theorem rampStep (g : GateId) : Statement (.rampStep g) := of_fits rfl rfl fun _ => rfl
theorem noticeTimerExpiry (seg : SegId) : Statement (.noticeTimerExpiry seg) := of_fits rfl rfl fun _ => rfl
theorem sweepTimerExpiry (seg : SegId) : Statement (.sweepTimerExpiry seg) := of_fits rfl rfl fun _ => rfl
theorem passTimerExpiry (g : GateId) : Statement (.passTimerExpiry g) := of_fits rfl rfl fun _ => rfl
theorem timebaseWrap (t : TbId) : Statement (.timebaseWrap t) := of_fits rfl rfl fun _ => rfl
theorem flashSlotAdvance : Statement (.flashSlotAdvance) := of_fits rfl rfl fun _ => rfl
theorem captureEdge (c : ChanId) (rising : Bool) : Statement (.captureEdge c rising) := of_fits rfl rfl fun _ => rfl
theorem lowWidthDebounceReached (c : ChanId) : Statement (.lowWidthDebounceReached c) := of_fits rfl rfl fun _ => rfl
theorem highTimeReached (c : ChanId) : Statement (.highTimeReached c) := of_fits rfl rfl fun _ => rfl
theorem binClose (c : ChanId) : Statement (.binClose c) := of_fits rfl rfl fun _ => rfl
theorem confirmTimerExpiry (p : PathId) : Statement (.confirmTimerExpiry p) := of_fits rfl rfl fun _ => rfl
theorem sampleCompletion : Statement (.sampleCompletion) := of_fits rfl rfl fun _ => rfl
theorem secondEvent : Statement (.secondEvent) := of_fits rfl rfl fun _ => rfl
theorem rerenderCheck : Statement (.rerenderCheck) := of_fits rfl rfl fun _ => rfl
theorem templateWriteComplete (readBackMatches : Bool) :
    Statement (.templateWriteComplete readBackMatches) := of_fits rfl rfl fun _ => rfl
theorem configSaveComplete (readBackMatches : Bool) :
    Statement (.configSaveComplete readBackMatches) := of_fits rfl rfl fun _ => rfl
theorem pollDue (h : SignId) : Statement (.pollDue h) := of_fits rfl rfl fun _ => rfl
theorem statusReceived (st : HeadStatus) : Statement (.statusReceived st) := of_fits rfl rfl fun _ => rfl
theorem ackReceived : Statement (.ackReceived) := of_fits rfl rfl fun _ => rfl
theorem nakReceived : Statement (.nakReceived) := of_fits rfl rfl fun _ => rfl
theorem stallReceived : Statement (.stallReceived) := of_fits rfl rfl fun _ => rfl
theorem badAnswerReceived (why : BadAnswer) : Statement (.badAnswerReceived why) := of_fits rfl rfl fun _ => rfl
theorem answerWindowExpiry (bytesSeen : Bool) :
    Statement (.answerWindowExpiry bytesSeen) := of_fits rfl rfl fun _ => rfl
theorem nakWaitExpiry : Statement (.nakWaitExpiry) := of_fits rfl rfl fun _ => rfl
theorem linkByteOutsideWindow (b : Byte) : Statement (.linkByteOutsideWindow b) := of_fits rfl rfl fun _ => rfl
theorem analogConversionComplete (i : InputId) (code : Nat) :
    Statement (.analogConversionComplete i code) := of_fits rfl rfl fun _ => rfl
theorem huntByteDiscarded (b : Byte) : Statement (.huntByteDiscarded b) := of_fits rfl rfl fun _ => rfl

end Sys2Proof.Laws.RowOf
end

