-- ==== Sys2Proof/Laws/Requests.lean ====
section
/-! SUPPORT. What becomes of a frame: not received, discarded, answered BUSY, or taken; and of a request that is taken:
refused, or carried out and answered. -/

namespace Sys2Proof.Machine

variable {α : Type} {k g : Byte} {early : Bool} {act : α → State → Verdict} {a : α} {s t : State}

/-- A RUNNING part takes the frame and judges its request. -/
theorem takeRequest_ready {b : Body α} (h : Ready s) :
    s.takeRequest k g early b act = s.frameEnded.conclude k g (judge early b act s.frameEnded) := by
  have h1 : ¬ s.site.phase = .held := by rw [h.1]; decide
  have h2 : ¬ transmitCapacity ≤ s.frameEnded.site.tx.length := Nat.not_le.mpr h.2.2
  have h3 : ¬ s.frameEnded.site.requestPending = true := by
    intro hp
    have h4 : s.site.requestPending = false := h.2.1
    exact Bool.false_ne_true (h4.symm.trans hp)
  unfold State.takeRequest
  rw [if_neg h1]
  exact (if_neg h2).trans (if_neg h3)

/-- A frame that fits is judged by its own checks alone. -/
theorem judge_fits (h : Ready s) : judge early (.fits a) act s.frameEnded = act a s.frameEnded := by
  have h1 : s.frameEnded.site.phase = .running := h.1
  simp [judge, Site.running, h1]

/-- A request carried out: the state it leaves, with its OK reply. -/
theorem takeRequest_done {body : ReplyBody} {r : Bool} (h : Ready s) (ha : act a s.frameEnded = .done t body r) :
    s.takeRequest k g early (.fits a) act = t.answer k g .ok body r := by
  rw [takeRequest_ready h, judge_fits h, ha]; rfl

/-- A request refused: its code, and nothing else changes. -/
theorem takeRequest_refused {body : ReplyBody} {c : ResultCode} (h : Ready s)
    (ha : act a s.frameEnded = .refuse c body) :
    s.takeRequest k g early (.fits a) act = s.replied k g c body := by
  rw [takeRequest_ready h, judge_fits h, ha]; rfl

/-- A request that only reads: its content, and nothing else changes. -/
theorem takeRequest_read {body : ReplyBody} (h : Ready s) (ha : act a s.frameEnded = .done s.frameEnded body) :
    s.takeRequest k g early (.fits a) act = s.replied k g .ok body := by
  rw [takeRequest_done h ha]; rfl

/-- A body that does not fit is refused with BAD_LENGTH. -/
theorem takeRequest_misfit (h : Ready s) : s.takeRequest k g early (.misfit : Body α) act = s.replied k g .badLength .none := by
  have h1 : s.frameEnded.site.phase = .running := h.1
  rw [takeRequest_ready h]
  have h2 : judge early (.misfit : Body α) act s.frameEnded = .refuse .badLength := by simp [judge, Site.running, h1]
  rw [h2]; rfl

/-- Nothing is received while the part is held. -/
theorem takeRequest_held {b : Body α} (h : s.site.phase = .held) : s.takeRequest k g early b act = s := if_pos h

/-- The reply of a state whose receiver is in HUNT, with the receiver left open. -/
theorem State.answer_replied {body : ReplyBody} {c : ResultCode} (h : t.site.rx = .hunt) (x : Receiver) :
    t.answer k g c body false = State.replied k g c body { t with site := { t.site with rx := x } } := by
  obtain ⟨e, r, p⟩ := t
  obtain ⟨⟩ := e
  simp only at h
  subst h
  rfl

/-- A frame changes nothing but what its request does and the port: the queue is never touched. -/
theorem takeRequest_pending {b : Body α} (ha : ∀ x u v body r, act x u = .done v body r → v.pending = u.pending) :
    (s.takeRequest k g early b act).pending = s.pending := by
  unfold State.takeRequest
  split
  · rfl
  · simp only []
    split
    · rfl
    · split
      · rfl
      · unfold judge
        split
        · rfl
        · split
          · rfl
          · cases hv : act _ s.frameEnded with
            | refuse c bd => rfl
            | done v bd r => exact (show _ = v.pending from rfl).trans (ha _ s.frameEnded v bd r hv)

/-! ## Indexes -/

/-- The number of an object from 1 names it. -/
@[simp] theorem index1_val {n : Nat} (i : Fin n) : index1 n (i.val + 1) = some i := by
  simp [index1, Nat.succ_le_of_lt i.isLt]

/-- The number of an object from 0 names it. -/
@[simp] theorem index0_val {n : Nat} (i : Fin n) : index0 n i.val = some i := by simp [index0]

/-- A number outside the range names nothing. -/
theorem index1_outside {n i : Nat} (h : outside1 n i = true) : index1 n i = none := by
  simp only [outside1, Bool.or_eq_true, decide_eq_true_eq] at h
  have : ¬ (1 ≤ i ∧ i ≤ n) := by omega
  simp [index1, this]

end Sys2Proof.Machine
end

