-- ==== Sys2Proof/Laws/Shared.lean ====
section
/-! SUPPORT. What the shared operations of Road can do: a report arriving, the drive permit queue, a claim list after a
posting or a withdrawal, the link arbiter, the rounding rule, and the PWM buffer. -/

namespace Sys2Proof.Machine

/-! ## Reports (R185, R187) -/

/-- The list of reports after an arrival. -/
def arrived (x : Report) (l : List Report) : List Report :=
  if l.length < reportCapacity then l ++ [x]
  else if lowestRank l < x.rank then l.eraseP (fun (y : Report) => y.rank == lowestRank l) ++ [x]
  else l

/-- An arrival changes the report queue, the lost-reports flag and ATTN, and nothing else. -/
theorem Road.arrive_eq (e : Site) (x : Report) (r : Road) :
    r.arrive e x = { r with
      reports := arrived x r.reports
      lost := r.lost || decide (reportCapacity ≤ r.reports.length)
      attn := attnOf e (arrived x r.reports) } := by
  unfold Road.arrive arrived
  by_cases h : r.reports.length < reportCapacity
  · simp [h, Road.evalAttn, Nat.not_le.mpr h]
  · by_cases h2 : lowestRank r.reports < x.rank <;> simp [h, h2, Road.evalAttn, Nat.not_lt.mp h]

theorem Road.report_eq (e : Site) (k : ReportKind) (n : Nat) (v : ReportValue) (r : Road) :
    r.report e k n v = r.arrive e { kind := k, subject := n, value := v, stamp := e.clock } := rfl

/-- After an arrival ATTN follows the queue. -/
theorem Road.arrive_attn (e : Site) (x : Report) (r : Road) :
    (r.arrive e x).attn = attnOf e (r.arrive e x).reports := by simp [Road.arrive_eq]

theorem lowestRank_foldl (l : List Report) (m : Nat) :
    l.foldl (fun m x => min m x.rank) m = m ∨ ∃ y ∈ l, y.rank = l.foldl (fun m x => min m x.rank) m := by
  induction l generalizing m with
  | nil => exact .inl rfl
  | cons a l ih =>
    rcases ih (min m a.rank) with h | ⟨y, hy, h⟩
    · rcases Nat.le_total m a.rank with hm | hm
      · exact .inl (by rw [List.foldl, h, Nat.min_eq_left hm])
      · exact .inr ⟨a, by simp, by rw [List.foldl, h, Nat.min_eq_right hm]⟩
    · exact .inr ⟨y, by simp [hy], by simpa [List.foldl] using h⟩

theorem ReportClass.rank_le (c : ReportClass) : c.rank ≤ 3 := by cases c <;> decide

/-- A queue that is not empty holds a report of its lowest class. -/
theorem lowestRank_mem {l : List Report} {n : Nat} (h : lowestRank l < n) (hn : n ≤ 3) :
    ∃ y ∈ l, y.rank = lowestRank l := by
  rcases lowestRank_foldl l 3 with h3 | h3
  · exact absurd h (by simp only [lowestRank, h3]; omega)
  · exact h3

/-- The report queue never grows past its capacity. -/
theorem arrived_length (x : Report) (l : List Report) (h : l.length ≤ reportCapacity) :
    (arrived x l).length ≤ reportCapacity := by
  unfold arrived
  split
  · simp; omega
  · split
    · rename_i _ h2
      obtain ⟨y, hy, hr⟩ := lowestRank_mem h2 (ReportClass.rank_le _)
      have := List.length_eraseP_of_mem (p := fun (z : Report) => z.rank == lowestRank l) hy (by simp [hr])
      have := List.length_pos_of_mem hy
      simp only [List.length_append, List.length_singleton]; omega
    · exact h

theorem Road.report_length (e : Site) (k : ReportKind) (n : Nat) (v : ReportValue) (r : Road)
    (h : r.reports.length ≤ reportCapacity) : (r.report e k n v).reports.length ≤ reportCapacity := by
  rw [Road.report_eq, Road.arrive_eq]; exact arrived_length _ _ h

/-! ## Numbers (Conventions) -/

/-- The two forms of the one rounding rule agree. -/
theorem roundDiv_natCast (n d : Nat) : roundDiv n d = (nearest n d : Nat) := by
  simp [roundDiv, nearest]

/-! ## The PWM buffer of a gate (R35) -/

/-- A gate that has stopped drives nothing, at once. -/
@[simp] theorem Gate.stopped_inForce (now : Nat) (x : Gate) : x.stopped.inForce now = 0 := by
  simp only [Gate.inForce, Gate.stopped_duty, Gate.stopped_driven, ite_self]

/-- A write to the buffer leaves the duty in force as it was for the rest of the period. -/
@[simp] theorem Gate.inForce_writeDuty (now d : Nat) (x : Gate) : (x.writeDuty now d).inForce now = x.inForce now := by
  simp [Gate.inForce]

/-- From the next period on the duty written is in force. -/
theorem Gate.inForce_writeDuty_later (now later d : Nat) (x : Gate) (h : pwmPeriod now < pwmPeriod later) :
    (x.writeDuty now d).inForce later = d := by simp [Gate.inForce, h]

/-- A period has started 63 µs on. -/
theorem pwmPeriod_lt {now later : Nat} (h : now + 63 ≤ later) : pwmPeriod now < pwmPeriod later := by
  unfold pwmPeriod; omega

/-! ## The drive permit queue (R31) -/

/-- Joining the queue: the gate's older entry leaves, the others keep their order, and the gate stands last. -/
theorem joinQueue_queue (g : GateId) (d : Dir) (r : Road) :
    (joinQueue g d r).queue = r.queue.filter (· ≠ g) ++ [g] := by simp [joinQueue]

/-- Joining changes the record of that gate alone. -/
theorem joinQueue_gate (g m : GateId) (d : Dir) (r : Road) :
    (joinQueue g d r).gate m = if m = g then { (r.gate g).stopped with state := d.waitState } else r.gate m := by
  simp [joinQueue, Road.gate, Road.onGate, Road.setGate, Road.leaveQueue, Vector.getElem_set, Fin.ext_iff, eq_comm]

/-- A gate stands in the queue at most once after joining. -/
theorem joinQueue_nodup (g : GateId) (d : Dir) (r : Road) (h : r.queue.Nodup) : (joinQueue g d r).queue.Nodup := by
  rw [joinQueue_queue, List.nodup_append]
  exact ⟨h.filter _, by simp, by simp⟩

/-- The arbiter with no permit free makes no grant (R32). -/
theorem permits_full (e : Site) (tell : Listener) (r : Road) (h : e.stage.permits ≤ r.holders) : permits e tell r = r := by
  simp [permits, arbitrate, Nat.not_lt.mpr h]

/-- The arbiter with no gate it may choose makes no grant (R32). -/
theorem permits_none (e : Site) (tell : Listener) (r : Road) (h : chooseGate e r = none) : permits e tell r = r := by
  simp [permits, arbitrate, h]

/-! ## Claim lists (R131 to R134) -/

/-- A withdrawal leaves the claims of the other sources, in their order. -/
theorem mem_dropClaim (src : Source) (l : List Claim) (c : Claim) : c ∈ dropClaim src l ↔ c ∈ l ∧ c.source ≠ src := by
  simp [dropClaim]

theorem dropClaim_length (src : Source) (l : List Claim) : (dropClaim src l).length ≤ l.length :=
  List.length_filter_le ..

theorem hasClaim_iff (src : Source) (l : List Claim) : hasClaim src l = true ↔ ∃ c ∈ l, c.source = src := by
  simp [hasClaim]

theorem dropClaim_lt {src : Source} {l : List Claim} (h : hasClaim src l = true) :
    (dropClaim src l).length < l.length := by
  obtain ⟨c, hc, hs⟩ := (hasClaim_iff ..).mp h
  exact List.length_filter_lt_length_iff_exists.mpr ⟨c, hc, by simp [hs]⟩

/-- The list with a claim entered is a rearrangement of the claim and the list. -/
theorem insertClaim_perm (c : Claim) (l : List Claim) : (insertClaim c l).Perm (c :: l) := by
  unfold insertClaim
  refine List.perm_middle.trans (.cons _ ?_)
  rw [List.takeWhile_append_dropWhile]

@[simp] theorem insertClaim_length (c : Claim) (l : List Claim) : (insertClaim c l).length = l.length + 1 := by
  simpa using (insertClaim_perm c l).length_eq

/-- A posting leaves at most 8 claims. -/
theorem postedList_length (c : Claim) (l : List Claim) (h : l.length ≤ claimCapacity) :
    (postedList c l).1.length ≤ claimCapacity := by
  unfold postedList
  split
  · rename_i hs
    have := dropClaim_lt hs
    simp only [insertClaim_length]; omega
  · split
    · simp only [insertClaim_length]; omega
    · split
      · rename_i hlen z hz
        split
        · simp only [insertClaim_length, List.length_dropLast]; unfold claimCapacity at *; omega
        · exact h
      · exact h

/-- A posting that displaces nothing leaves the claims of the other sources where they stood. -/
theorem mem_postedList {c x : Claim} {l : List Claim} (h : x ∈ (postedList c l).1) : x = c ∨ x ∈ l := by
  unfold postedList at h
  split at h
  · rcases List.mem_cons.mp ((insertClaim_perm ..).mem_iff.mp h) with h | h
    · exact .inl h
    · exact .inr ((mem_dropClaim ..).mp h).1
  · split at h
    · exact List.mem_cons.mp ((insertClaim_perm ..).mem_iff.mp h)
    · split at h
      · split at h
        · rcases List.mem_cons.mp ((insertClaim_perm ..).mem_iff.mp h) with h | h
          · exact .inl h
          · exact .inr (List.mem_of_mem_dropLast h)
        · exact .inr h
      · exact .inr h

/-! ## The link arbiter (R160) -/

/-- A transaction in progress keeps the link. -/
theorem linkArbitrate_busy (e : Site) (r : Road) (h : r.link.isSome = true) : linkArbitrate e r = r := by
  simp [linkArbitrate, h]

/-- Outside RUNNING the link is idle. -/
theorem linkArbitrate_stopped (e : Site) (r : Road) (h : e.running = false) : linkArbitrate e r = r := by
  simp [linkArbitrate, h]

/-- The arbiter starts a LOAD, starts a POLL, or leaves the link as it is. -/
theorem linkArbitrate_cases (e : Site) (r : Road) :
    linkArbitrate e r = r ∨
    (∃ h p, r.link = none ∧ chooseLoad r = some h ∧ (r.sign h).pending = some p ∧
      linkArbitrate e r = startLoad e h p.page r) ∨
    (∃ h, r.link = none ∧ chooseLoad r = none ∧ chooseDue r = some h ∧ linkArbitrate e r = startPoll e h r) := by
  unfold linkArbitrate
  split
  · exact .inl rfl
  · rename_i hb
    have hl : r.link = none := by
      cases hr : r.link with
      | none => rfl
      | some t => simp [hr] at hb
    split
    · rename_i h hc
      split
      · rename_i p hp
        exact .inr (.inl ⟨h, p, hl, hc, hp, rfl⟩)
      · exact .inl rfl
    · rename_i hc
      split
      · rename_i h hd
        exact .inr (.inr ⟨h, hl, hc, hd, rfl⟩)
      · exact .inl rfl

section
variable (e : Site) (r : Road)

@[simp] theorem linkArbitrate_segments : (linkArbitrate e r).segments = r.segments := by
  rcases linkArbitrate_cases e r with h | ⟨a, p, -, -, -, h⟩ | ⟨a, -, -, -, h⟩ <;> rw [h] <;> rfl
@[simp] theorem linkArbitrate_passes : (linkArbitrate e r).passes = r.passes := by
  rcases linkArbitrate_cases e r with h | ⟨a, p, -, -, -, h⟩ | ⟨a, -, -, -, h⟩ <;> rw [h] <;> rfl
@[simp] theorem linkArbitrate_gates : (linkArbitrate e r).gates = r.gates := by
  rcases linkArbitrate_cases e r with h | ⟨a, p, -, -, -, h⟩ | ⟨a, -, -, -, h⟩ <;> rw [h] <;> rfl
@[simp] theorem linkArbitrate_queue : (linkArbitrate e r).queue = r.queue := by
  rcases linkArbitrate_cases e r with h | ⟨a, p, -, -, -, h⟩ | ⟨a, -, -, -, h⟩ <;> rw [h] <;> rfl
@[simp] theorem linkArbitrate_slots : (linkArbitrate e r).slots = r.slots := by
  rcases linkArbitrate_cases e r with h | ⟨a, p, -, -, -, h⟩ | ⟨a, -, -, -, h⟩ <;> rw [h] <;> rfl
@[simp] theorem linkArbitrate_reports : (linkArbitrate e r).reports = r.reports := by
  rcases linkArbitrate_cases e r with h | ⟨a, p, -, -, -, h⟩ | ⟨a, -, -, -, h⟩ <;> rw [h] <;> rfl
@[simp] theorem linkArbitrate_lost : (linkArbitrate e r).lost = r.lost := by
  rcases linkArbitrate_cases e r with h | ⟨a, p, -, -, -, h⟩ | ⟨a, -, -, -, h⟩ <;> rw [h] <;> rfl
@[simp] theorem linkArbitrate_attn : (linkArbitrate e r).attn = r.attn := by
  rcases linkArbitrate_cases e r with h | ⟨a, p, -, -, -, h⟩ | ⟨a, -, -, -, h⟩ <;> rw [h] <;> rfl
end

end Sys2Proof.Machine
end

