-- ==== Sys2Proof/Tests/Slice0.lean ====
section
/-! SUPPORT. Tests: terms that the well-formedness check refuses, states that meet the hypotheses of each statement, and
the manual's worked cases. -/

namespace Sys2Proof.Tests

open Sys2Proof Sys2Proof.Machine

/-! ## Ill-formed terms, one for each check -/

theorem test_segment_fields_refused : ([
    { index := 256, enabled := none, noticeSet := 0, closureTemplate := 1, noticeLimit := 0, sweepTime := 0, reopenMode := none },
    { index := 1, enabled := none, noticeSet := 0, closureTemplate := 256, noticeLimit := 0, sweepTime := 0, reopenMode := none },
    { index := 1, enabled := none, noticeSet := 0, closureTemplate := 1, noticeLimit := 65536, sweepTime := 0, reopenMode := none },
    { index := 1, enabled := none, noticeSet := 0, closureTemplate := 1, noticeLimit := 0, sweepTime := 65536, reopenMode := none }] :
    List SegmentReq).all (fun q => !(Instr.putSegment 0 (.fits q)).wellFormed) = true := by decide

def gateReq : GateReq :=
  { index := 1, enabled := some true, boundary := 0, guarded := 1, travelLimit := 30, startDuty := 30, runDuty := 80
    reversalPause := 500, retries := 2, presenceUsed := some true }

theorem test_gate_fields_refused :
    (Instr.putGate 0 (.fits gateReq)).wellFormed = true ∧
    ([{ gateReq with index := 256 }, { gateReq with boundary := 256 }, { gateReq with guarded := 256 },
      { gateReq with travelLimit := 256 }, { gateReq with startDuty := 256 }, { gateReq with runDuty := 256 },
      { gateReq with reversalPause := 65536 }, { gateReq with retries := 256 }] : List GateReq).all
      (fun q => !(Instr.putGate 0 (.fits q)).wellFormed) = true := by decide

theorem test_sign_timebase_channel_fields_refused :
    ([{ index := 256, enabled := none, maxBrightness := 0, standing := 0 },
      { index := 1, enabled := none, maxBrightness := 256, standing := 0 },
      { index := 1, enabled := none, maxBrightness := 0, standing := 256 }] : List SignReq).all
      (fun q => !(Instr.putSign 0 (.fits q)).wellFormed) = true ∧
    (Instr.putTimebase 0 (.fits { index := 256, rate := none, mode := none })).wellFormed = false ∧
    (Instr.putChannel 0 (.fits { index := 256, mode := none, edges := none, timebase := 0, inverted := none })).wellFormed
      = false ∧
    (Instr.putChannel 0 (.fits { index := 0, mode := none, edges := none, timebase := 256, inverted := none })).wellFormed
      = false := by decide

def stationReq : StationReq :=
  { index := 1, airInput := .num 0, airCal := { lo := -500, hi := 500 }, surfInput := .absent
    surfCal := { lo := -500, hi := 500 }, rhInput := .absent, rhCal := { lo := 0, hi := 1000 }, wind := .absent, k := 500 }

theorem test_station_fields_refused :
    (Instr.putStation 0 (.fits stationReq)).wellFormed = true ∧
    ([{ stationReq with index := 256 }, { stationReq with airInput := .num 255 }, { stationReq with surfInput := .num 255 },
      { stationReq with rhInput := .num 255 }, { stationReq with wind := .num 255 }, { stationReq with k := 65536 },
      { stationReq with airCal := { lo := 32768, hi := 0 } }, { stationReq with airCal := { lo := 0, hi := -32769 } },
      { stationReq with surfCal := { lo := 32768, hi := 0 } }, { stationReq with rhCal := { lo := 0, hi := 32768 } }] :
      List StationReq).all (fun q => !(Instr.putStation 0 (.fits q)).wellFormed) = true := by decide

def trigReq : TriggerReq :=
  { index := 1, enabled := some true, source := some .supply, relation := some .above, setLevel := 10, clearLevel := 5
    setCount := 1, clearCount := 1, reason := some .ice, segments := 0, template := 0, signs := 0 }

theorem test_trigger_fields_refused :
    (Instr.putTrigger 0 (.fits trigReq)).wellFormed = true ∧
    ([{ trigReq with index := 256 }, { trigReq with setLevel := 32768 }, { trigReq with clearLevel := -32769 },
      { trigReq with setCount := 256 }, { trigReq with clearCount := 256 }, { trigReq with template := 256 }] :
      List TriggerReq).all (fun q => !(Instr.putTrigger 0 (.fits q)).wellFormed) = true := by decide

def detReq : DetectorReq := { chan := .num 0, kind := some .tripline, debounce := 1000, threshold := 20, window := 10 }

def pathReq : PathReq :=
  { index := 1, enabled := some true, det1 := detReq, det2 := { detReq with chan := .absent }, mode := some .any
    confirmWindow := 60, crossing := 1, signs := 0, avalancheTemplate := 0, hazardTemplate := 0
    beaconEnabled := some true, beaconPhase := some .a }

theorem test_path_fields_refused :
    (Instr.putPath 0 (.fits pathReq)).wellFormed = true ∧
    ([{ pathReq with index := 256 }, { pathReq with confirmWindow := 65536 }, { pathReq with crossing := 256 },
      { pathReq with avalancheTemplate := 256 }, { pathReq with hazardTemplate := 256 },
      { pathReq with det1 := { detReq with chan := .num 255 } }, { pathReq with det1 := { detReq with debounce := 65536 } },
      { pathReq with det1 := { detReq with threshold := 256 } }, { pathReq with det2 := { detReq with window := 256 } }] :
      List PathReq).all (fun q => !(Instr.putPath 0 (.fits q)).wellFormed) = true := by decide

def schedReq : ScheduleReq :=
  { index := 1, enabled := some true, kind := some .daily, closeTime := 79200, openTime := 21600, lead := 0, segments := 1
    template := 0, signs := 0 }

theorem test_schedule_fields_refused :
    (Instr.putSchedule 0 (.fits schedReq)).wellFormed = true ∧
    ([{ schedReq with index := 256 }, { schedReq with closeTime := 4294967296 }, { schedReq with openTime := 4294967296 },
      { schedReq with lead := 4294967296 }, { schedReq with template := 256 }] : List ScheduleReq).all
      (fun q => !(Instr.putSchedule 0 (.fits q)).wellFormed) = true := by decide

theorem test_supply_fields_refused :
    (Instr.putSupply 0 (.fits {})).wellFormed = true ∧
    ([{ ecoEnter := 32768 }, { ecoLeave := 32768 }, { resEnter := -32769 }, { resLeave := 32768 },
      { cal := { lo := 32768, hi := 0 } }] : List SupplyCfg).all
      (fun q => !(Instr.putSupply 0 (.fits q)).wellFormed) = true := by decide

theorem test_template_fields_refused :
    (Instr.putTemplate 0 (.fits { slot := 1, lines := [[.char 65], [.field 1 1], []] })).wellFormed = true ∧
    ([{ slot := 256, lines := [[], [], []] }, { slot := 1, lines := [[], []] }, { slot := 1, lines := [[.char 31], [], []] },
      { slot := 1, lines := [[.char 127], [], []] }, { slot := 1, lines := [[.field 0 1], [], []] },
      { slot := 1, lines := [[.field 7 1], [], []] }, { slot := 1, lines := [[.field 1 256], [], []] },
      { slot := 1, lines := [List.replicate 60 (.field 1 1), List.replicate 60 (.field 1 1), List.replicate 3 (.field 1 1)] }] : List TemplateReq).all
      (fun q => !(Instr.putTemplate 0 (.fits q)).wellFormed) = true := by decide

theorem test_other_fields_refused :
    ([.setZone 0 (.fits 2147483648), .setZone 0 (.fits (-2147483649)), .getRecord 0 (.fits { kind := 256, index := 0 }),
      .getRecord 0 (.fits { kind := 0, index := 256 }), .getTemplate 0 (.fits 256), .closeSegment 0 (.fits 256),
      .releaseSegment 0 (.fits 256), .reopenSegment 0 (.fits 256), .resetGateFault 0 (.fits 256), .clearPath 0 (.fits 256),
      .withdrawNotice 0 (.fits 256), .getSegment 0 (.fits 256), .getGate 0 (.fits 256), .getSign 0 (.fits 256),
      .getPath 0 (.fits 256), .getTrigger 0 (.fits 256), .getSchedule 0 (.fits 256),
      .servicePass 0 (.fits { gate := 256, duration := 0 }), .servicePass 0 (.fits { gate := 1, duration := 65536 }),
      .declareHazard 0 (.fits { path := 256, close := none }), .postNotice 0 (.fits { slot := 256, signs := 0, template := 0 }),
      .postNotice 0 (.fits { slot := 1, signs := 0, template := 256 }), .unknownKind 0x10 0, .huntByteDiscarded 0xA5,
      .analogConversionComplete 0 4096] : List Instr).all (fun i => !i.wellFormed) = true := by decide

/-- No row of the table gives bits. -/
theorem test_table_words_spell_nothing : decodeTableWord 8 0 = none ∧ State.reset.withFetchWord 8 0 = State.reset :=
  ⟨rfl, rfl⟩

/-! ## States -/

/-- A RUNNING part with nothing enabled. -/
def run0 : State := { State.reset with site := { phase := .running } }

def withCfg (f : WorkingConfig → WorkingConfig) (s : State) : State := s.mapSite fun e => { e with cfg := f e.cfg }
def withRoad (f : Road → Road) (s : State) : State := { s with road := f s.road }

/-- The part with gate 2 enabled as the guard of segment 1, in a state, with segment 1 enabled. -/
def gateS (y : Gate) (x : Segment := {}) (c : GateCfg := { enabled := true }) : State :=
  withRoad (fun r => (r.setGate 1 y).setSegment 0 x)
    (withCfg (fun k => { k with gates := k.gates.set 1 c, segments := k.segments.set 0 { enabled := true } }) run0)

/-- The same with permits all given out, so that the arbiter grants none. -/
def busyS (y : Gate) : State :=
  withRoad (fun r => r.setGate 3 { permit := true })
    ((gateS y).mapSite fun e => { e with stage := .reserve })

/-- The part with segment 1 enabled, alone, in a state and with a hold set. -/
def segS (x : Segment) (h : HoldSet := {}) (c : SegmentCfg := { enabled := true }) : State :=
  withRoad (fun r => r.setSegment 0 x)
    ((withCfg (fun k => { k with segments := k.segments.set 0 c }) run0).mapSite fun e => e.setHold 0 h)

/-- The part with path 1 enabled over segment 1, with a channel record, path fields and channel fields. -/
def pathS (c : PathCfg) (x : Path) (m : ChannelCfg) (ch : Channel) : State :=
  (withCfg (fun k => { k with
      segments := k.segments.set 0 { enabled := true }, paths := k.paths.set 0 c, channels := k.channels.set 0 m })
    run0).mapSite fun e => (e.setPath 0 x).setChan 0 ch

/-- The part with the link in an exchange with the head of sign 1, which is ONLINE. -/
def linkS (t : Transaction) (x : Head := { link := .online }) (y : Sign := {}) : State :=
  withRoad (fun r => ((r.setHead 0 x).setSign 0 y).setLinkTo (some t)) run0

/-- A test on the next state. -/
def after (o : Host.Outcome State Fault Refusal) (p : State → Bool) : Bool :=
  match o with
  | .next t => p t
  | _ => false

theorem ready_of {s : State} (h : (s.site.phase = .running ∧ s.site.requestPending = false ∧ s.site.tx.length < 4)) :
    Ready s := h

theorem writable_of {s : State}
    (h : (s.site.phase = .running ∧ s.site.requestPending = false ∧ s.site.tx.length < 4) ∧ s.site.storeOp = none) :
    Writable s := h

theorem ready_run0 : Ready run0 := ready_of (by decide)
theorem writable_run0 : Writable run0 := writable_of (by decide)

/-! ## Hypotheses that are met: the port and resets -/

theorem test_witness_step : (⟨{}, {}, [.brownOut]⟩ : State).pending = .brownOut :: [] ∧ run0.pending = [] := ⟨rfl, rfl⟩

theorem test_witness_frames :
    frameOf (.getClock 7 .misfit) = some (0x03, 7) ∧ (heldState run0).site.phase = .held ∧
    (let s := run0.mapSite fun e => { e with tx := List.replicate 4 ⟨1, 1, .ok, .none, true, false⟩ }
     s.site.phase ≠ .held ∧ 4 ≤ s.site.tx.length) ∧
    (let s := run0.mapSite fun e => { e with requestPending := true, tx := List.replicate 3 ⟨1, 1, .ok, .none, true, false⟩ }
     s.site.phase ≠ .held ∧ s.site.tx.length < 4 ∧ s.site.requestPending = true) := by decide

theorem test_witness_loading_refuses :
    frameOf (.getClock 7 .misfit) = some (0x03, 7) ∧ State.reset.site.phase = .loading ∧
    State.reset.site.requestPending = false ∧ State.reset.site.tx.length < 4 ∧ State.reset.site.phase ≠ .held := by decide

theorem test_witness_misfit : Ready run0 ∧ misfits (.getClock 7 .misfit) = true := ⟨ready_run0, by decide⟩

theorem test_witness_bad_index : Ready run0 ∧
    ([.putSegment 0 (.fits ⟨7, none, 0, 1, 0, 0, none⟩), .putGate 0 (.fits { gateReq with index := 9 }),
      .putSign 0 (.fits ⟨17, none, 0, 0⟩), .putTimebase 0 (.fits ⟨4, none, none⟩), .putChannel 0 (.fits ⟨12, none, none, 0, none⟩),
      .putStation 0 (.fits { stationReq with index := 4 }), .putTrigger 0 (.fits { trigReq with index := 25 }),
      .putPath 0 (.fits { pathReq with index := 9 }), .putSchedule 0 (.fits { schedReq with index := 17 }),
      .putTemplate 0 (.fits ⟨97, []⟩), .getTemplate 0 (.fits 97), .closeSegment 0 (.fits 0), .releaseSegment 0 (.fits 7),
      .reopenSegment 0 (.fits 7), .servicePass 0 (.fits ⟨9, 0⟩), .declareHazard 0 (.fits ⟨0, none⟩), .clearPath 0 (.fits 9),
      .postNotice 0 (.fits ⟨5, 0, 0⟩), .withdrawNotice 0 (.fits 0), .getRecord 0 (.fits ⟨9, 1⟩), .getRecord 0 (.fits ⟨3, 4⟩),
      .getSign 0 (.fits 17), .getTrigger 0 (.fits 25), .getSchedule 0 (.fits 0)] : List Instr).all
      (fun c => (frameOf c).isSome && badIndex c) = true := ⟨ready_run0, by decide⟩

theorem test_witness_store_refuses :
    (let s := run0.mapSite fun e => { e with storeOp := some .config }
     Ready s ∧ s.site.storeOp.isSome = true) ∧
    ([.putSegment 0 (.fits ⟨6, none, 0, 1, 0, 0, none⟩), .putTemplate 0 (.fits ⟨96, []⟩), .saveConfig 0 (.fits ()),
      .setAttention 0 (.fits none)] : List Instr).all
      (fun c => storeKept c && !misfits c && !badIndex c && (frameOf c).isSome) = true :=
  ⟨⟨ready_of (by decide), rfl⟩, by decide⟩

theorem test_witness_replies :
    run0.site.tx = [] ∧
    ∃ x : Reply, (run0.mapSite fun e => { e with tx := [x] }).site.tx = x :: [] ∧ x.restarts = true :=
  ⟨rfl, ⟨1, 1, .ok, .none, true, true⟩, rfl, rfl⟩

theorem test_witness_line :
    (run0.mapSite fun e => { e with resetLow := true }).site.resetLow = true ∧ run0.site.resetLow = false ∧
    (run0.mapSite fun e => { e with resetLow := true }).site.powerGood = true ∧
    (run0.mapSite fun e => { e with resetLow := true, powerGood := false }).site.powerGood = false := by decide

theorem test_witness_end_of_loading :
    let s := State.reset
    s.site = { (loadingState .power {}).site with
      channels := s.site.channels, clock := s.site.clock, secondEnd := s.site.secondEnd, now := s.site.now
      rx := s.site.rx, rxLast := s.site.rxLast, requestPending := s.site.requestPending, tx := s.site.tx } ∧
    s.road.segments = Vector.replicate 6 {} ∧ s.road.passes = Vector.replicate 8 .idle ∧ s.road.queue = [] ∧
    s.road.signs = Vector.replicate 16 {} ∧ s.road.heads = Vector.replicate 16 {} ∧ s.road.link = none ∧
    (∀ g, s.road.gate g = { upLimit := (s.road.gate g).upLimit, downLimit := (s.road.gate g).downLimit
                            presence := (s.road.gate g).presence, trip := (s.road.gate g).trip }) ∧
    s.site.clock = none := by
  refine ⟨rfl, rfl, rfl, rfl, rfl, rfl, rfl, by decide, rfl⟩

theorem test_witness_clock_reads :
    Ready run0 ∧ run0.site.clock = none ∧ Ready (run0.mapSite fun e => { e with clock := some 5 }) :=
  ⟨ready_run0, rfl, ready_of (by decide)⟩

/-! ## Hypotheses that are met: configuration writes -/

theorem test_witness_put_segment : Writable run0 ∧ (1 : TemplateNo) ≠ 0 ∧ (run0.road.segment 0).state = .open ∧
    ((∀ p, (run0.site.pathCfg p).enabled = true → (run0.site.pathCfg p).crossing ≠ 0) ∧
    (∀ k, decide ((run0.site.trigger k).state = .active) = false ∧ decide ((run0.site.trigger k).state = .falling) = false) ∧
    ∀ x, decide (run0.site.entry x = .closing) = false) :=
  ⟨writable_run0, by decide, by decide, by decide⟩

theorem test_witness_put_gate :
    Writable run0 ∧ ((0 : Fin 7).val = (0 : SegId).val ∨ (0 : Fin 7).val = (0 : SegId).val + 1) ∧
    (run0.road.gate 1).state = .unknown ∧ (run0.site.gateCfg 1).enabled = false ∧ run0.road.pass 1 = .idle ∧
    run0.road.queue = [] ∧
    (let s := withRoad (fun r => r.setGate 1 { upLimit := true }) run0
     Writable s ∧ (s.road.gate 1).upLimit = true ∧ (s.road.gate 1).downLimit = false ∧ (s.road.segment 0).state = .open ∧
       (s.road.gate 1).state = .unknown ∧ (s.site.gateCfg 1).enabled = false) ∧
    let s := gateS { state := .up, target := some .up }
    Writable s ∧ (s.site.gateCfg 1).enabled = true ∧ (s.site.gateCfg 1).guarded = 0 ∧ (s.road.gate 1).state = .up ∧
      (s.road.gate 1).target = some .up ∧ (s.road.segment 0).state = .open ∧ s.road.pass 1 = .idle ∧ s.road.queue = [] := by
  refine ⟨writable_run0, by decide, by decide, by decide, by decide, rfl, ⟨writable_of (by decide), by decide⟩,
    writable_of (by decide), by decide⟩

theorem test_witness_put_sign :
    let s := linkS { head := 1, step := .poll, wait := .answer 50000, toggle := false }
    Writable s ∧ NoNotice s.site s.road ∧ (∀ x, s.road.link = some x → x.head ≠ 0) ∧ (s.road.sign 0).claims = [] := by
  refine ⟨writable_of (by decide), by unfold NoNotice; decide, ?_, by decide⟩
  intro x h
  cases h
  decide

theorem test_witness_put_timebase :
    (let s := withCfg (fun k => { k with
        timebases := k.timebases.set 3 { rate := .khz125 }, channels := k.channels.set 2 { mode := .period, timebase := 3 } }) run0
     Writable s ∧ (s.site.tbCfg 3).mode = .free ∧ ∃ n, (s.site.chanCfg n).mode = .period ∧ (s.site.chanCfg n).timebase = 3) ∧
    Writable run0 ∧ (run0.site.tbCfg 3).mode = .flash ∧ (run0.site.tbCfg 0) = { rate := .mhz1, mode := .free } ∧
    (run0.site.tbCfg 0) ≠ { rate := .khz2, mode := .free } :=
  ⟨⟨writable_of (by decide), by decide⟩, writable_run0, by decide⟩

theorem test_witness_put_channel :
    (let s := pathS { enabled := true } { detection := .suspect } {} {}
     Writable s ∧ ∃ p, (s.site.pathCfg p).enabled = true ∧ (s.site.pathCfg p).det1.chan = 0 ∧
       (s.site.path p).detection ≠ .quiet) ∧
    (run0.site.tbCfg 3).mode = .flash ∧
    (let s := pathS { enabled := true } {} {} {}
     Writable s ∧ (s.site.path 0).detection = .quiet) ∧
    ∀ p, (run0.site.pathCfg p).enabled = false :=
  ⟨⟨writable_of (by decide), by decide⟩, by decide, ⟨writable_of (by decide), by decide⟩, by decide⟩

theorem test_witness_put_station :
    Writable run0 ∧ ((some (8 : Fin 9)).toList ++ (some (0 : Fin 9)).toList ++ (none : Option (Fin 9)).toList).Nodup ∧
    (∀ v : StationId, v ≠ 0 → (∀ i ∈ [(8 : Fin 9), 0], (run0.site.stationCfg v).airInput ≠ some i ∧
      (run0.site.stationCfg v).surfInput ≠ some i ∧ (run0.site.stationCfg v).rhInput ≠ some i) ∧
      (run0.site.stationCfg v).wind = none) ∧
    ∀ n, (run0.site.trigger n).state ≠ .active ∧ (run0.site.trigger n).state ≠ .falling :=
  ⟨writable_run0, by decide⟩

theorem test_witness_put_trigger :
    Writable run0 ∧ (run0.site.trigger 0).state = .disabled ∧
    (let s := run0.mapSite fun e => e.setTrigger 0 { state := .falling }
     Writable s ∧ (s.site.trigger 0).state = .falling) ∧
    (∀ x y : Int, x = 3000 → y = 2999 → max 0 (min 3000 y) < max 0 (min 3000 x)) :=
  ⟨writable_run0, by decide, ⟨writable_of (by decide), by decide⟩, by omega⟩

theorem test_witness_put_path :
    let s := withCfg (fun k => { k with segments := k.segments.set 0 { enabled := true } }) run0
    Writable s ∧ (∃ c, pathOf pathReq = some c ∧ c.enabled = true ∧ (s.site.segCfg c.crossing).enabled = true) ∧
    (s.site.path 0).detection = .quiet ∧ (s.site.path 0).declared = false ∧
    ∀ n, (s.site.chanCfg n).mode = .lowWidth → s.site.seenHigh n = true ∨ (s.site.chan n).continuity = .broken :=
  ⟨writable_of (by decide), ⟨_, rfl, by decide⟩, by decide⟩

theorem test_witness_put_schedule :
    Writable run0 ∧ (scheduleOf schedReq).isSome = true ∧ EntryInLine run0.site 0 ∧ run0.site.clock = none ∧
    run0.site.entry 0 = .idle ∧ run0.site.cfg.zone = max (-43200) (min 50400 0) ∧
    run0.site.cfg.zone ≠ max (-43200) (min 50400 50401) ∧ ∀ n, EntryInLine run0.site n := by
  unfold EntryInLine
  exact ⟨writable_run0, by decide⟩

theorem test_witness_put_supply :
    Writable run0 ∧ supplyOf {} = some {} ∧ supplyOf { cal := { lo := 0, hi := 2000 } } ≠ none ∧
    ∀ n, (run0.site.trigger n).state ≠ .active ∧ (run0.site.trigger n).state ≠ .falling :=
  ⟨writable_run0, by decide⟩

theorem test_witness_store :
    Writable run0 ∧ (templateOf [[.char 65], [], []]).isSome = true ∧ run0.site.storeOp ≠ some .config ∧
    (∀ n, run0.site.storeOp ≠ some (.template n)) ∧
    (run0.mapSite fun e => { e with storeOp := some .config }).site.storeOp = some .config ∧
    (let s := withRoad (fun r => r.setSlot 95 (.writing {})) (run0.mapSite fun e => { e with storeOp := some (.template 95) })
     s.site.storeOp = some (.template 95) ∧ s.road.slots[(95 : SlotId)] = .writing {} ∧ NoNotice s.site s.road ∧
       ∀ h, (s.site.signCfg h).enabled = false) :=
  ⟨writable_run0, by decide, by decide, (fun n h => nomatch h), rfl, rfl, by decide, by unfold NoNotice; decide, by decide⟩

/-! ## Hypotheses that are met: clock, segments, passes, faults, paths, notices -/

theorem test_witness_clock :
    Ready run0 ∧ (∀ n, EntryInLine run0.site n) ∧
    (let e : Site := { run0.site with clock := some 5, secondEnd := some (run0.site.now + 1000000) }
     (Vector.ofFn fun n => entryState e (e.entryCfg n) : Vector SchedState 16) = run0.site.entries) ∧
    State.reset.site.clock = none ∧
    (State.reset.mapSite fun e => { e with clock := some 4294967295 }).site.phase ≠ .running ∧
    (run0.mapSite fun e => { e with clock := some 4294967295 }).site.clock = some 4294967295 := by
  unfold EntryInLine
  exact ⟨ready_run0, by decide⟩

theorem test_witness_segment_requests :
    (Ready run0 ∧ (run0.site.segCfg 0).enabled = false) ∧
    (let s := segS {}
     Ready s ∧ (s.site.segCfg 0).enabled = true ∧ (s.road.segment 0).state = .open ∧ (s.site.hold 0).operator = false ∧
       (∀ y, (s.site.gateCfg y).enabled = true → (s.site.gateCfg y).guarded ≠ 0) ∧ (s.site.segCfg 0).noticeSet = 0 ∧
       s.road.queue = [] ∧ 0 < (s.site.segCfg 0).sweepTime) ∧
    (let s := segS { state := .reopening }
     Ready s ∧ (s.road.segment 0).state = .reopening ∧ (s.site.hold 0).operator = false) ∧
    (let s := segS { state := .closed } { operator := true, restart := true }
     Ready s ∧ (s.road.segment 0).state = .closed ∧ s.site.hold 0 ≠ {}) ∧
    (let s := segS { state := .closed }
     Ready s ∧ (s.road.segment 0).state = .closed ∧ s.site.hold 0 = {}) ∧
    (let s := segS { state := .notice } { operator := true }
     Ready s ∧ (s.road.segment 0).state = .notice ∧ { s.site.hold 0 with operator := false, restart := false } = {}) ∧
    let s := segS { state := .closed } { restart := true } { enabled := true, reopenMode := .automatic }
    Ready s ∧ (s.site.segCfg 0).reopenMode = .automatic ∧ { s.site.hold 0 with operator := false, restart := false } = {} :=
  ⟨⟨ready_run0, by decide⟩, ⟨ready_of (by decide), by decide⟩, ⟨ready_of (by decide), by decide⟩,
    ⟨ready_of (by decide), by decide⟩, ⟨ready_of (by decide), by decide⟩, ⟨ready_of (by decide), by decide⟩,
    ready_of (by decide), by decide⟩

theorem test_witness_service_pass :
    (Ready run0 ∧ (run0.site.gateCfg 1).enabled = false) ∧
    (let s := gateS { state := .up, target := some .up }
     Ready s ∧ (s.site.gateCfg 1).enabled = true ∧ (s.road.segment 0).state ≠ .closed) ∧
    (let s := (gateS { state := .down } { state := .closed }).mapSite fun e => e.setHold 0 { paths := Vector.replicate 8 true }
     Ready s ∧ (s.road.segment 0).state = .closed ∧ ∃ p, (s.site.hold 0).has (.path p) = true) ∧
    (let s := gateS { state := .faulted } { state := .closed }
     Ready s ∧ (s.road.segment 0).state = .closed ∧ (s.road.gate 1).state = .faulted ∧
       ∀ p, (s.site.hold 0).has (.path p) = false) ∧
    (let s := gateS { state := .up, target := some .down } { state := .closed }
     Ready s ∧ (s.road.segment 0).state = .closed ∧ (s.road.gate 1).state = .up) ∧
    (let s := gateS { state := .raising, target := some .up } { state := .closed }
     Ready s ∧ (s.road.gate 1).target = some .up ∧ (s.road.gate 1).state ≠ .up ∧ s.road.queue = []) ∧
    let s := gateS { state := .down, target := some .down, downLimit := true } { state := .closed }
    Ready s ∧ (s.road.gate 1).state = .down ∧ (s.road.gate 1).target = some .down ∧ (s.road.gate 1).upLimit = false ∧
      (s.road.gate 1).trip = false ∧ s.road.queue = [] ∧ s.road.holders < s.site.stage.permits :=
  ⟨⟨ready_run0, by decide⟩, ⟨ready_of (by decide), by decide⟩, ⟨ready_of (by decide), by decide⟩,
    ⟨ready_of (by decide), by decide⟩, ⟨ready_of (by decide), by decide⟩, ⟨ready_of (by decide), by decide⟩,
    ready_of (by decide), by decide⟩

theorem test_witness_pass_expiry :
    (∀ d t, run0.road.pass 1 ≠ .running d t) ∧
    (let s := withRoad (fun r => r.setPass 1 (.running 30 5)) (gateS { state := .raising, target := some .down })
     s.road.pass 1 = .running 30 5 ∧ (s.road.gate 1).target = some .down ∧ s.road.queue = []) ∧
    let s := withRoad (fun r => r.setPass 1 (.running 30 5)) (busyS { state := .up, target := some .up })
    s.road.pass 1 = .running 30 5 ∧ (s.road.gate 1).target ≠ some .down ∧ (s.road.gate 1).state = .up ∧
      (s.road.gate 1).permit = false ∧ NoGrant s.site s.road := by
  unfold NoGrant
  exact ⟨(fun _ _ h => nomatch h), by decide⟩

theorem test_witness_reset_fault :
    (Ready run0 ∧ (run0.site.gateCfg 1).enabled = false) ∧
    (let s := gateS { state := .up }
     Ready s ∧ (s.site.gateCfg 1).enabled = true ∧ (s.road.gate 1).state ≠ .faulted) ∧
    (let s := gateS { state := .faulted, target := some .up, upLimit := true }
     Ready s ∧ (s.road.gate 1).state = .faulted ∧ (s.road.gate 1).target = some .up ∧ s.road.queue = [] ∧
       s.road.pass 1 = .idle ∧ (s.road.segment 0).state ≠ .reopening) ∧
    (let s := gateS { state := .faulted, target := some .down, downLimit := true }
     Ready s ∧ (s.road.gate 1).state = .faulted ∧ (s.road.gate 1).target = some .down ∧ (s.road.segment 0).state ≠ .clearing) ∧
    (let s := busyS { state := .faulted, target := some .up }
     Ready s ∧ (s.road.gate 1).state = .faulted ∧ (s.road.gate 1).permit = false ∧ NoGrant s.site s.road) ∧
    (let s := busyS { state := .faulted, target := some .down }
     Ready s ∧ (s.road.gate 1).target = some .down ∧ NoGrant s.site s.road) ∧
    let s := gateS { state := .faulted, target := some .up, upLimit := true, downLimit := true }
    Ready s ∧ (s.road.gate 1).state = .faulted ∧ s.road.queue = [] ∧ FaultUnheard s.site s.road 1 := by
  unfold NoGrant FaultUnheard
  exact ⟨⟨ready_run0, by decide⟩, ⟨ready_of (by decide), by decide⟩, ⟨ready_of (by decide), by decide⟩,
    ⟨ready_of (by decide), by decide⟩, ⟨ready_of (by decide), by decide⟩, ⟨ready_of (by decide), by decide⟩,
    ready_of (by decide), by decide⟩

theorem test_witness_hazard :
    (Ready run0 ∧ (run0.site.pathCfg 0).enabled = false) ∧
    (let s := pathS { enabled := true } { declared := true, closeOption := true } {} {}
     Ready s ∧ (s.site.pathCfg 0).enabled = true ∧ (s.site.path 0).declared = true ∧ (s.site.path 0).closeOption = true) ∧
    (let s := pathS { enabled := true } {} {} {}
     Ready s ∧ (s.site.path 0).declared = false ∧ (s.site.pathCfg 0).signs = 0) ∧
    (let s := pathS { enabled := true } { detection := .released } {} {}
     Ready s ∧ (s.site.path 0).detection ≠ .quiet) ∧
    let s := pathS { enabled := true } { coverage := .blind } {} {}
    Ready s ∧ (s.site.path 0).detection = .quiet ∧ (s.site.path 0).declared = false ∧
      (s.site.path 0).coverage = s.site.coverageOf 0 ∧ (s.site.path 0).det1.state ≠ .fired ∧
      (s.site.path 0).det2.state ≠ .fired :=
  ⟨⟨ready_run0, by decide⟩, ⟨ready_of (by decide), by decide⟩, ⟨ready_of (by decide), by decide⟩,
    ⟨ready_of (by decide), by decide⟩, ready_of (by decide), by decide⟩

theorem test_witness_notices : Ready run0 ∧ NoNotice run0.site run0.road ∧ run0.site.notices[(3 : NoticeId)] = none := by
  unfold NoNotice
  exact ⟨ready_run0, by decide⟩

/-! ## Hypotheses that are met: gate and segment events -/

theorem test_witness_limits :
    (let s := gateS { state := .faulted, target := some .up }
     s.site.phase = .running ∧ (s.site.gateCfg 1).enabled = true ∧ (s.road.gate 1).upLimit = false ∧
       (s.road.gate 1).state = .faulted) ∧
    (State.reset.site.phase ≠ .running ∧ run0.site.phase = .running ∧ (run0.site.gateCfg 1).enabled = false) ∧
    (let s := gateS { state := .paused, target := some .up }
     OnlyQueued s.road 1 ∧ FaultUnheard s.site s.road 1 ∧ (s.road.gate 1).state ≠ .faulted) ∧
    (let s := gateS { state := .lowering, target := some .down } { state := .closed }
     (s.road.gate 1).downLimit = false ∧ (s.road.gate 1).state = .lowering ∧ OnlyQueued s.road 1 ∧
       (s.road.segment (s.site.gateCfg 1).guarded).state ≠ .clearing) ∧
    (let s := withRoad (fun r => { r with queue := [1] }) (gateS { state := .waitRaise, target := some .up })
     (s.road.gate 1).upLimit = false ∧ (s.road.gate 1).state = .waitRaise ∧ OnlyQueued s.road 1 ∧ s.road.pass 1 = .idle ∧
       (s.road.segment (s.site.gateCfg 1).guarded).state ≠ .reopening) ∧
    (let s := gateS { state := .down, target := some .down, downLimit := true }
     (s.road.gate 1).state = .down ∧ (s.road.gate 1).target = some .down ∧ (s.road.gate 1).downLimit = true) ∧
    let s := gateS { state := .up, target := some .up, upLimit := true }
    (s.road.gate 1).state = .up ∧ (s.road.gate 1).target = some .up ∧ (s.road.gate 1).upLimit = true := by
  unfold OnlyQueued FaultUnheard
  decide

theorem test_witness_presence :
    (let s := gateS { state := .lowering, target := some .down }
     (s.road.gate 1).presence ≠ true ∧ s.site.phase = .running ∧ (s.site.gateCfg 1).enabled = true ∧
       (s.site.gateCfg 1).presenceUsed = true ∧ (s.road.gate 1).state = .lowering ∧ s.road.queue = []) ∧
    (gateS { state := .blocked }).road.gate 1 = { state := .blocked } ∧
    (let s := withRoad (fun r => { r with queue := [1] }) (gateS { state := .waitLower, presence := true, target := some .down })
     (s.road.gate 1).presence ≠ false ∧ (s.road.gate 1).state = .waitLower ∧ (s.road.gate 1).downLimit = false ∧
       (s.road.gate 1).trip = false ∧ s.road.queue = [1] ∧ s.road.holders < s.site.stage.permits) ∧
    (let s := gateS { state := .raising, target := some .up }
     (s.road.gate 1).presence ≠ true ∧ (s.road.gate 1).state ≠ .blocked) ∧
    let s := busyS { state := .blocked, target := some .down, holdOffTimer := some 3000000 }
    (s.road.gate 1).state = .blocked ∧ (s.road.gate 1).holdOffTimer.isSome = true ∧ (s.road.gate 1).permit = false ∧
      NoGrant s.site s.road := by
  unfold NoGrant
  decide

theorem test_witness_trip :
    (let s := gateS { state := .raising, target := some .up, permit := true }
     s.site.phase = .running ∧ (s.site.gateCfg 1).enabled = true ∧ (s.road.gate 1).state = .raising ∧ s.road.queue = []) ∧
    (let s := busyS { state := .tripped, target := some .down, retryTimer := some 5000000, retryCount := 1 }
     (s.road.gate 1).state = .tripped ∧ (s.road.gate 1).retryTimer.isSome = true ∧
       (s.road.gate 1).retryCount < (s.site.gateCfg 1).retries ∧ (s.road.gate 1).permit = false ∧ NoGrant s.site s.road) ∧
    (busyS { state := .tripped, target := some .up }).road.gate 1 = { state := .tripped, target := some .up } ∧
    let s := gateS { state := .tripped, target := some .up, retryTimer := some 5000000, retryCount := 2 }
    (s.road.gate 1).retryTimer.isSome = true ∧ (s.site.gateCfg 1).retries ≤ (s.road.gate 1).retryCount ∧
      FaultUnheard s.site s.road 1 := by
  unfold NoGrant FaultUnheard
  decide

theorem test_witness_gate_timers :
    (let s := gateS { state := .lowering, target := some .down, travelTimer := some 30000000 }
     (s.road.gate 1).travelTimer.isSome = true ∧ OnlyQueued s.road 1 ∧ FaultUnheard s.site s.road 1) ∧
    (let s := gateS { state := .paused, target := some .down, pauseTimer := some 500000, downLimit := true }
     (s.road.gate 1).state = .paused ∧ (s.road.gate 1).pauseTimer.isSome = true ∧ (s.road.gate 1).target = some .down ∧
       OnlyQueued s.road 1 ∧ (s.road.gate 1).downLimit = true ∧ (s.road.segment 0).state ≠ .clearing) ∧
    (let s := gateS { state := .paused, target := some .up, pauseTimer := some 500000, upLimit := true }
     (s.road.gate 1).target = some .up ∧ (s.road.gate 1).upLimit = true ∧ s.road.pass 1 = .idle ∧
       (s.road.segment 0).state ≠ .reopening) ∧
    (let s := gateS { state := .paused, target := some .down, pauseTimer := some 500000, presence := true }
     (s.road.gate 1).downLimit = false ∧ (s.site.gateCfg 1).presenceUsed = true ∧ (s.road.gate 1).presence = true ∧
       s.road.queue = []) ∧
    (let s := gateS { state := .paused, target := some .up, pauseTimer := some 500000, permit := true }
     (s.road.gate 1).upLimit = false ∧ (s.road.gate 1).trip = false) ∧
    (let s := busyS { state := .down, target := some .down, displaceTimer := some 1000000 }
     (s.road.gate 1).state = .down ∧ (s.road.gate 1).displaceTimer.isSome = true ∧ (s.road.gate 1).permit = false ∧
       NoGrant s.site s.road) ∧
    let s := gateS { state := .raising, rampTimer := some 100000, duty := 78 }
    (s.road.gate 1).state = .raising ∧ (s.road.gate 1).rampTimer.isSome = true := by
  unfold NoGrant FaultUnheard OnlyQueued
  decide

theorem test_witness_segment_timers :
    (let s := segS { state := .notice, noticeTimer := some 5 } { operator := true }
     (s.road.segment 0).state = .notice ∧ (s.road.segment 0).noticeTimer.isSome = true ∧ s.road.queue = [] ∧
       (∀ y, ¬((s.site.gateCfg y).enabled = true ∧ (s.site.gateCfg y).guarded = 0)) ∧ 0 < (s.site.segCfg 0).sweepTime) ∧
    (let s := gateS { state := .lowering, target := some .down } { state := .clearing, sweepTimer := some 5 }
     (s.road.segment 0).state = .clearing ∧ (s.road.segment 0).sweepTimer.isSome = true ∧
       ∃ y, ((s.site.gateCfg y).enabled = true ∧ (s.site.gateCfg y).guarded = 0) ∧ (s.road.gate y).state ≠ .down ∧
         (s.road.gate y).state ≠ .faulted) ∧
    let s := gateS { state := .down, target := some .down } { state := .clearing, sweepTimer := some 5 }
    (∀ y, (s.site.gateCfg y).enabled = true ∧ (s.site.gateCfg y).guarded = 0 → (s.road.gate y).target = some .down ∧
      ((s.road.gate y).state = .down ∨ (s.road.gate y).state = .faulted)) ∧ s.road.queue = [] ∧
      (s.site.segCfg 0).reopenMode = .confirmed := by
  decide

/-! ## Hypotheses that are met: timebases, channels, detectors, measurement -/

theorem test_witness_timebases :
    run0.site.phase = .running ∧ (run0.site.tbCfg 0).mode = .free ∧ (run0.site.tbCfg 3).mode = .flash ∧
    (pathS {} {} { mode := .lowWidth } {}).site.chanCfg 0 = { mode := .lowWidth } ∧
    (pathS {} {} { mode := .count } {}).site.chanCfg 0 = { mode := .count } ∧
    (let s := pathS {} {} { mode := .period, edges := .four } { reference := some 5, edgeCount := 3 }
     (s.site.chanCfg 0).mode = .period ∧ (s.site.chan 0).reference = some 5 ∧
       (s.site.chanCfg 0).edges.number ≤ (s.site.chan 0).edgeCount + 1) ∧
    let s := pathS {} {} { mode := .period, edges := .four } { reference := some 5, edgeCount := 2 }
    (s.site.chan 0).edgeCount + 1 < (s.site.chanCfg 0).edges.number := by
  decide

theorem test_witness_detectors :
    (let s := pathS {} {} { mode := .lowWidth } {}
     s.site.phase = .running ∧ (s.site.chanCfg 0).mode = .lowWidth ∧ (s.site.chan 0).pin = false ∧
       (s.site.chan 0).continuity ≠ .broken ∧ (s.site.chan 0).continuity ≠ .intact ∧ Unwatched s.site 0) ∧
    (let s := pathS { enabled := true } {} { mode := .lowWidth } { continuity := .intact }
     (s.site.chan 0).continuity = .intact ∧ (∀ q, q ≠ 0 → (s.site.pathCfg q).enabled = false) ∧
       (s.site.pathCfg 0).enabled = true ∧ (s.site.pathCfg 0).mode = .any ∧ (s.site.pathCfg 0).det2 = none ∧
       (s.site.pathCfg 0).det1.chan = 0 ∧ (s.site.pathCfg 0).det1.kind = .tripline ∧ (s.site.path 0).detection = .quiet ∧
       (s.site.path 0).det1.state = .ready) ∧
    (let s := pathS { enabled := true, det1 := { kind := .seismic, threshold := 20, window := 10 } } {} { mode := .count }
       { bin := 19 }
     (s.site.pathCfg 0).det1.kind = .seismic ∧
       (((s.site.chan 0).bin :: (s.site.chan 0).bins).take (min 10 (min 60 1))).sum < 20) ∧
    (let s := pathS {} {} { mode := .count } {}
     (s.site.chanCfg 0).mode = .count ∧ Unwatched s.site 0) ∧
    let s := pathS { enabled := true, det1 := { kind := .seismic } } { detection := .suspect, confirmTimer := some 5, det1 := { state := .fired } }
      { mode := .count } {}
    (s.site.pathCfg 0).enabled = true ∧ (s.site.path 0).detection = .suspect ∧ (s.site.path 0).confirmTimer.isSome = true ∧
      (s.site.pathCfg 0).det2 = none ∧ (s.site.path 0).det1.state = .fired ∧ (s.site.path 0).coverage = .full ∧
      (s.site.chanCfg (s.site.pathCfg 0).det1.chan).mode = .count ∧ (s.site.pathCfg 0).signs = 0 := by
  refine ⟨⟨by decide, by decide, by decide, by decide, by decide, ?_⟩, by decide, by decide, ⟨by decide, ?_⟩, by decide⟩ <;>
  · intro p h
    exact absurd h (by revert p; decide)

/-- The part with station 1 on inputs A1 and A2 with a wind channel in PERIOD mode. -/
def weatherS (x : Station) (ch : Channel) : State :=
  (withCfg (fun k => { k with
      stations := k.stations.set 0 { airInput := some 0, rhInput := some 1, wind := some 0 }
      channels := k.channels.set 0 { mode := .period } }) run0).mapSite fun e => (e.setStation 0 x).setChan 0 ch

theorem test_witness_samples :
    run0.site.phase = .running ∧ State.reset.site.phase ≠ .running ∧ (run0.site.stationCfg 0).wind = none ∧
    (let s := weatherS {} { latest := some { ticks := some 1000, edges := .one, timebase := 0, rate := .mhz1, completed := 0 } }
     (s.site.stationCfg 0).wind = some 0 ∧ (s.site.chanCfg 0).mode = .period ∧ (s.site.chan 0).latest.isSome = true ∧
       max s.site.now (s.site.sampleEnd.getD s.site.now) - 0 ≤ 4000000) ∧
    (let s := withCfg (fun k => { k with stations := k.stations.set 0 { wind := some 0 } }) run0
     (s.site.stationCfg 0).wind = some 0 ∧ (s.site.chanCfg 0).mode ≠ .period) := by
  decide

/-! ## Hypotheses that are met: the sign link -/

theorem test_witness_rerender :
    run0.site.phase = .running ∧ State.reset.site.phase ≠ .running ∧ (∀ h, (run0.site.signCfg h).enabled = false) ∧
    let s := withRoad (fun r => r.setSlot 0 (.valid {} true)) (withCfg (fun k => { k with
      signs := k.signs.set 0 { enabled := true, standing := 1 } })
        (linkS { head := 1, step := .poll, wait := .answer 50000, toggle := false }))
    (∀ i, (s.site.signCfg i).enabled = decide (i = 0)) ∧ (s.site.signCfg 0).standing.val = (0 : SlotId).val + 1 ∧
      s.road.slots[(0 : SlotId)] = .valid {} true ∧ (s.road.sign 0).claims = [] ∧ (s.road.sign 0).pending = none ∧
      (s.road.sign 0).sent = none ∧ s.site.stage ≠ .reserve ∧ s.road.link ≠ none := by
  decide

theorem test_witness_polls :
    (let s := linkS { head := 0, step := .poll, wait := .answer 50000, toggle := false } { link := .online }
     s.road.link.isSome = true ∧ (s.road.head 1).link = .unconfigured) ∧
    (let s := linkS { head := 1, step := .poll, wait := .answer 50000, toggle := false } { link := .silent }
     s.road.link.isSome = true ∧ (s.road.head 0).link ≠ .unconfigured ∧ (s.road.head 0).due = none ∧ (1 : SignId) ≠ 0) ∧
    (let s := withRoad (fun r => r.setHead 0 { link := .lagging }) run0
     s.site.phase = .running ∧ s.road.link = none ∧ LinkQuiet s.road ∧ (s.road.head 0).link ≠ .unconfigured) ∧
    run0.road.link = none ∧
    let s := linkS { head := 0, step := .text1, wait := .nak 200000, toggle := true }
    s.road.link = some { head := 0, step := .text1, wait := .nak 200000, toggle := true } := by
  unfold LinkQuiet
  decide

theorem test_witness_answers :
    run0.road.link = none ∧
    (let t : Transaction := { head := 0, step := .text2, wait := .answer 50000, toggle := true }
     let s := linkS t { link := .online, naks := 7 }
     s.site.phase = .running ∧ NoNotice s.site s.road ∧ LinkQuiet s.road ∧ s.road.link = some t ∧ t.wait = .answer 50000 ∧
       t.rewritten = false ∧ t.reserved = false ∧ (s.road.head 0).link = .online ∧ 8 ≤ (s.road.head 0).naks + 1) ∧
    (let s := linkS { head := 0, step := .command, wait := .answer 50000, toggle := true } { link := .online, naks := 6 }
     (s.road.head 0).naks + 1 < 8) ∧
    let st : HeadStatus := ⟨.ready, 5, true, 0, false, false, false, 0, 0⟩
    let p : SentPage := { page := ⟨blankText, 0, none, none, 100, false⟩, tag := 5 }
    let s := linkS { head := 0, step := .confirm, wait := .answer 50000, toggle := true } { link := .online, status := some st }
      { sent := some p }
    (s.road.sign 0).sent = some p ∧ p.tag = st.shownTag ∧ st.displayFail = false ∧ (s.road.head 0).status = some st ∧
      st.phase = .ready := by
  unfold LinkQuiet NoNotice
  decide

theorem test_witness_reports :
    run0.road.reports.length < 48 ∧
    (let x : Report := { kind := .segmentState, subject := 1, value := .none, stamp := none }
     let y : Report := { kind := .storeDone, subject := 0, value := .none, stamp := none }
     let l := [x] ++ y :: List.replicate 46 x
     48 ≤ l.length ∧ y.rank < x.rank ∧ (∀ z ∈ [x], y.rank < z.rank) ∧ (∀ z ∈ List.replicate 46 x, y.rank ≤ z.rank) ∧
       ∀ z ∈ l, y.rank ≤ z.rank) := by
  decide

theorem test_witness_invariants : AttnOk State.reset ∧ PermitsOk State.reset := by
  unfold AttnOk PermitsOk
  decide

theorem test_witness_bounds : Bounded State.reset :=
  ⟨⟨by decide, by unfold ClaimsOk; decide, by decide, by decide⟩, by decide⟩

theorem test_witness_closures : ClosuresOk State.reset where
  crossings := by unfold CrossingsOk; decide
  stored := by unfold CrossingsOk; decide
  unused := by decide
  openFree := by decide
  avalanche := by decide
  released := by decide
  owned := by decide
  quiet := by decide
  asleep := by decide

theorem test_witness_schedules : SchedulesOk State.reset where
  states := by decide
  asleep := by decide
  holds := by decide

theorem test_witness_rows :
    isConfigWrite .brownOut = false ∧ isReset .loadingEnd = false ∧ isGateInput .brownOut = false ∧
    ∃ t, exec .loadingEnd State.reset = .next t := ⟨rfl, rfl, rfl, _, rfl⟩

/-! ## Hypotheses that are met: bytes, the end of LOADING, several objects at once -/

/-- A state whose receiver stands somewhere, and whose last byte came some microseconds ago. -/
def rxS (x : Receiver) (ago : Nat) : State := run0.mapSite fun e => { e with rx := x, now := ago }

set_option maxRecDepth 8000 in
theorem test_witness_receiver :
    (run0.site.phase ≠ .held ∧ run0.site.rx = .hunt) ∧ (heldState run0).site.phase = .held ∧
    (rxS .length 5).site.rx ≠ .hunt ∧ ¬20000 < (rxS .length 20000).site.now - (rxS .length 20000).site.rxLast ∧
    20000 < (rxS .length 20001).site.now - (rxS .length 20001).site.rxLast ∧
    ((1 : Byte).toNat < 2 ∧ 250 < (251 : Byte).toNat) ∧
    (let s := rxS (.check 2 [0x01, 0x00] (some 0)) 5
     s.site.rx = .check 2 [0x01, 0x00] (some 0) ∧ bytes16 (crc16 [2, 0x01, 0x00]) ≠ [0, 0]) := by
  decide

set_option maxRecDepth 8000 in
theorem test_witness_bytes :
    gateReq.fits = true ∧ stationReq.fits = true ∧ trigReq.fits = true ∧ pathReq.fits = true ∧ schedReq.fits = true ∧
    SupplyCfg.fits {} = true ∧ contentBytes (.duration 30) = [0, 30] ∧ contentBytes .none = [] ∧
    (let q : SegmentReq := { index := 1, enabled := some true, noticeSet := 0, closureTemplate := 1, noticeLimit := 0
                             sweepTime := 0, reopenMode := some .automatic }
     q.fits = true ∧ (segmentOf q).isSome = true) ∧
    (gateOf gateReq).isSome = true ∧
    (let q : SignReq := { index := 1, enabled := some true, maxBrightness := 0, standing := 0 }
     q.fits = true ∧ (signOf q).isSome = true) ∧
    (let q : TimebaseReq := { index := 0, rate := some .khz2, mode := some .free }
     q.fits = true ∧ (timebaseOf 0 q).isSome = true) ∧
    (let q : ChannelReq := { index := 0, mode := some .count, edges := some .one, timebase := 0, inverted := some true }
     q.fits = true ∧ (channelOf q).isSome = true) ∧
    (stationOf stationReq).isSome = true ∧ (triggerOf trigReq).isSome = true ∧ (pathOf pathReq).isSome = true ∧
    (scheduleOf schedReq).isSome = true ∧ (supplyOf {}).isSome = true ∧
    (templateOf [[.char 65, .field 1 1], [], []]).isSome = true := by
  decide

/-- R26 lists UP, DOWN, none and the three causes, none; R136 lists FLASHING, STEADY; R147 lists 0, 1, unknown. -/
theorem test_reply_codes :
    ([some .up, some .down, none].map targetCode = [0, 1, 2]) ∧
    ([some .travelTimeout, some .driveTrip, some .limitConflict, none].map faultCode = [0, 1, 2, 3]) ∧
    ([true, false].map attributeByte = [0, 1]) ∧ ([some false, some true, none].map toggleCode = [0, 1, 2]) ∧
    statusPayload { phase := .starting, shownTag := 7, toggle := true, brightness := 60, displayFail := true
                    doorOpen := false, heaterFail := true, ambient := 0x0102, latestPacket := 3 } =
      [1, 7, 1, 60, 5, 1, 2, 3] := by
  decide

set_option maxRecDepth 8000 in
theorem test_witness_link_bytes :
    let s := linkS { head := 0, step := .command, wait := .answer 50000, toggle := true } { link := .online }
      { sent := some { page := ⟨blankText, 0, none, none, 100, false⟩, tag := 5 } }
    (∃ t w, s.road.link = some t ∧ t.wait = .answer w ∧ t.step = .command ∧ (s.road.sign t.head).sent.isSome = true) ∧
    (linkS { head := 15, step := .poll, wait := .answer 50000, toggle := false }).road.link =
      some { head := 15, step := .poll, wait := .answer 50000, toggle := false } ∧
    bytes16 (crc16 [1, 0x82, 0, 0]) ≠ [0, 0] :=
  ⟨⟨_, _, rfl, rfl, rfl, rfl⟩, rfl, by decide⟩

/-- A part that has saved a configuration with segments 1 and 2 enabled and gates 2, 3 and 4 guarding them. -/
def savedPart : State :=
  let c : WorkingConfig :=
    { segments := (Vector.replicate 6 {}).set 0 { enabled := true, noticeSet := 1 } |>.set 1 { enabled := true }
      gates := (Vector.replicate 8 {}).set 1 { enabled := true } |>.set 2 { enabled := true, guarded := 1 }
        |>.set 3 { enabled := true, guarded := 1 }
      signs := (Vector.replicate 16 {}).set 0 { enabled := true } }
  { site := { image := { state := .valid, records := c, intact := true } } }

/-- Its LOADING, with gate 2 between its limits, gate 3 UP and gate 4 with both limits active. -/
def loadingPart : State :=
  withRoad (fun r => { r with gates := (r.gates.set 2 { upLimit := true }).set 3 { upLimit := true, downLimit := true } })
    (loadingState .power savedPart)

theorem test_witness_configured_loading :
    let s := loadingPart
    (s.site = { (loadingState .power savedPart).site with
      channels := s.site.channels, clock := s.site.clock, secondEnd := s.site.secondEnd, now := s.site.now
      rx := s.site.rx, rxLast := s.site.rxLast, requestPending := s.site.requestPending, tx := s.site.tx }) ∧
    s.road.segments = Vector.replicate 6 {} ∧ s.road.passes = Vector.replicate 8 .idle ∧ s.road.queue = [] ∧
    s.road.signs = Vector.replicate 16 {} ∧ s.road.heads = Vector.replicate 16 {} ∧ s.road.link = none ∧
    (∀ g, s.road.gate g = { upLimit := (s.road.gate g).upLimit, downLimit := (s.road.gate g).downLimit
                            presence := (s.road.gate g).presence, trip := (s.road.gate g).trip }) ∧
    s.site.clock = none ∧ (∀ g, (s.road.gate g).trip = false) ∧ s.road.reports.length ≤ 2 ∧
    (∀ n : SlotId, s.road.slots[n] = .empty) ∧ ∀ p, (s.site.pathCfg p).enabled = false := by
  refine ⟨rfl, rfl, rfl, rfl, rfl, rfl, rfl, fun g => ?_, rfl, fun g => ?_, by decide, fun n => ?_, by decide⟩
  · simp only [loadingPart, withRoad, loadingState, heldState, Road.gate, Fin.getElem_fin, Vector.getElem_set,
      Vector.getElem_map]
    split <;> [rfl; (split <;> rfl)]
  · simp only [loadingPart, savedPart, withRoad, loadingState, heldState, Road.gate, Fin.getElem_fin, Vector.getElem_set,
      Vector.getElem_map, Vector.getElem_replicate]
    split <;> [rfl; (split <;> rfl)]
  · simp [loadingPart, savedPart, withRoad, loadingState, heldState]

theorem test_witness_many_gates :
    (let s := withRoad (fun r => { (r.setGate 3 { permit := true }).setGate 5 { state := .waitLower } with queue := [5, 1] })
       ((gateS { state := .waitLower, presence := true, target := some .down }).mapSite fun e => { e with stage := .economy })
     (s.road.gate 1).presence ≠ false ∧ s.site.phase = .running ∧ (s.site.gateCfg 1).enabled = true ∧
       (s.site.gateCfg 1).presenceUsed = true ∧ (s.road.gate 1).state = .waitLower ∧
       s.road.holders + 1 = s.site.stage.permits ∧
       s.road.queue.find? (fun q =>
         (if q = 1 then { s.road.gate 1 with presence := false } else s.road.gate q).state == .waitLower &&
           !((s.site.gateCfg q).presenceUsed &&
             (if q = 1 then { s.road.gate 1 with presence := false } else s.road.gate q).presence)) = some 5 ∧
       (s.road.gate 5).permit = false ∧ (s.road.gate 5).trip = false ∧ (s.road.gate 5).downLimit = false) ∧
    let s := withRoad (fun r => { (r.setGate 3 { permit := true }).setGate 5 { state := .waitRaise } with queue := [5] })
      ((gateS { state := .tripped, target := some .up, retryTimer := some 5 }).mapSite fun e => { e with stage := .economy })
    (s.road.gate 1).state = .tripped ∧ (s.road.gate 1).retryTimer.isSome = true ∧
      (s.road.gate 1).retryCount < (s.site.gateCfg 1).retries ∧ (s.road.gate 1).upLimit = false ∧
      (s.road.gate 1).downLimit = false ∧ (s.road.gate 1).permit = false ∧ (s.road.gate 1).target = some .up ∧
      s.road.holders + 1 = s.site.stage.permits ∧ (s.road.gate 5).limit .up = false ∧ (s.road.gate 5).trip = false := by
  decide

/-! ## Hypotheses that are met: clock, claims, paths -/

/-- The part with entry 1 enabled over no segment, from 00:10 to 01:00, with a template and signs. -/
def entryS : State :=
  withCfg (fun k => { k with
    entries := k.entries.set 0 { enabled := true, closeTime := 600, template := 3, signs := 1 } }) run0

theorem test_witness_entry_claims :
    let s := entryS
    Ready s ∧ (let e : Site := { s.site with clock := some 600, secondEnd := some (s.site.now + 1000000) }
      entryState e (e.entryCfg 0) = .closing ∧ entryState e (e.entryCfg 0) ≠ s.site.entry 0) ∧
    NoNotice s.site s.road ∧ ∀ n, (s.site.entryCfg n).segments = 0 :=
  ⟨ready_of (by decide), by decide, by unfold NoNotice; decide, by decide⟩

theorem test_witness_closure_claims :
    (let s := segS {} {} { enabled := true, noticeSet := 1 }
     Ready s ∧ (s.road.segment 0).state = .open ∧ (s.site.hold 0).operator = false ∧ NoNotice s.site s.road ∧
       s.road.queue = [] ∧ (s.site.segCfg 0).noticeSet.getLsbD 0 = true) ∧
    let s := segS { state := .closed } { operator := true } { enabled := true, noticeSet := 1, reopenMode := .automatic }
    Ready s ∧ (s.road.segment 0).state = .closed ∧ NoNotice s.site s.road ∧ s.road.queue = [] := by
  unfold NoNotice
  exact ⟨⟨ready_of (by decide), by decide⟩, ready_of (by decide), by decide⟩

theorem test_witness_path_claims :
    (let s := pathS { enabled := true, signs := 1, hazardTemplate := 2 } {} {} {}
     Ready s ∧ (s.site.pathCfg 0).enabled = true ∧ (s.site.path 0).declared = false ∧ NoNotice s.site s.road ∧
       s.road.queue = [] ∧ (s.site.segCfg 0).enabled = true ∧ (s.road.segment 0).state = .open ∧
       (s.site.hold 0).has (.hazard 0) = false ∧ (s.site.path 0).detection = .quiet) ∧
    let s := pathS { enabled := true } { detection := .released } {} {}
    (s.site.path 0).detection ≠ .quiet ∧ NoNotice s.site s.road := by
  unfold NoNotice
  exact ⟨⟨ready_of (by decide), by decide⟩, by decide⟩

/-! ## Hypotheses that are met: ramps, held level times, detectors -/

theorem test_witness_ramp_and_level :
    (let s := gateS { state := .raising, target := some .up, duty := 30, driven := 0, dutyAt := 0, rampTimer := some 100000 }
     (s.road.gate 1).state = .raising ∧ (s.road.gate 1).rampTimer = some 100000) ∧
    let s := pathS {} {} { mode := .lowWidth } { levelCount := 1, levelWraps := 4, levelHeld := true }
    s.site.phase = .running ∧ (s.site.tbCfg 0).mode = .free ∧ (s.site.chanCfg 0).mode = .lowWidth ∧
      (s.site.chan 0).levelHeld = true ∧ (s.site.chanCfg 0).timebase = 0 := by
  decide

/-- Path 1 in mode BOTH with trip-lines on channels 0 and 1, over segment 1, and channel 1 at a level with a continuity. -/
def bothS (x : Path) (pin : Bool) (k : Continuity) : State :=
  let e := pathS { enabled := true, mode := .both, det2 := some { chan := 1 } } x { mode := .lowWidth } { continuity := .intact }
  (withCfg (fun c => { c with channels := c.channels.set 1 { mode := .lowWidth } }) e).mapSite fun e =>
    e.setChan 1 { pin := pin, continuity := k }

theorem watched_second : WatchedBy (bothS {} false .unknown).site 1 0 .second { chan := 1 } := by
  refine ⟨by decide, by decide, rfl, fun q f y hq hf hy => ?_⟩
  have hq0 : q = 0 := by clear hf; revert q; decide
  subst hq0
  cases f with
  | first =>
    have h : detOf ((bothS {} false .unknown).site.pathCfg 0) .first = some {} := by decide
    rw [h] at hf
    cases hf
    exact absurd hy (by decide)
  | second => exact ⟨rfl, rfl⟩

theorem watched_both (x : Path) (pin : Bool) (k : Continuity) :
    WatchedBy (bothS x pin k).site 1 0 .second { chan := 1 } := watched_second

theorem test_witness_second_detector :
    -- a wire that breaks: SUSPECT in mode BOTH, RELEASED in mode BOTH when DEGRADED or already SUSPECT
    (let s := bothS {} false .intact
     s.site.phase = .running ∧ (s.site.chanCfg 1).mode = .lowWidth ∧ WatchedBy s.site 1 0 .second { chan := 1 } ∧
       ((s.site.path 0).det .second).state = .ready ∧ (s.site.chan 1).continuity = .intact ∧ (s.site.chan 1).pin = false ∧
       (s.site.path 0).detection = .quiet ∧ (s.site.pathCfg 0).mode = .both ∧ NoNotice s.site s.road) ∧
    (let s := bothS { detection := .suspect, det1 := { state := .fired } } false .intact
     WatchedBy s.site 1 0 .second { chan := 1 } ∧ (s.site.path 0).detection = .suspect) ∧
    -- found broken, broken with the detector SPENT, mended with the detector SPENT, mended with it READY
    (let s := bothS {} false .unknown
     WatchedBy s.site 1 0 .second { chan := 1 } ∧ (s.site.chan 1).continuity = .unknown ∧
       ((s.site.path 0).det .second).state = .ready) ∧
    (let s := bothS { det2 := { state := .spent } } false .unknown
     WatchedBy s.site 1 0 .second { chan := 1 } ∧ ((s.site.path 0).det .second).state ≠ .ready) ∧
    (let s := bothS { det2 := { state := .spent }, coverage := .degraded } true .broken
     WatchedBy s.site 1 0 .second { chan := 1 } ∧ (s.site.chan 1).pin = true ∧
       ((s.site.path 0).det .second).state = .spent ∧ (s.site.chan 1).continuity ≠ .intact) ∧
    let s := bothS {} true .unknown
    WatchedBy s.site 1 0 .second { chan := 1 } ∧ ((s.site.path 0).det .second).state ≠ .spent := by
  unfold NoNotice
  exact ⟨⟨by decide, by decide, watched_both .., by decide⟩, ⟨watched_both .., by decide⟩, ⟨watched_both .., by decide⟩,
    ⟨watched_both .., by decide⟩, ⟨watched_both .., by decide⟩, watched_both .., by decide⟩

/-- The part with path 1 in mode ANY with a seismic detector on channel 0. -/
def seismicS (ch : Channel) : State :=
  pathS { enabled := true, det1 := { kind := .seismic, threshold := 20, window := 10 } } {} { mode := .count } ch

theorem test_witness_bins :
    (let s := seismicS {}
     WatchedBy s.site 0 0 .first { kind := .seismic, threshold := 20, window := 10 }) ∧
    let s := seismicS { bin := 20 }
    (s.site.chanCfg 0).mode = .count ∧ ((s.site.path 0).det .first).state = .ready ∧
      20 ≤ ((((s.site.chan 0).bin :: (s.site.chan 0).bins).take 60).take (min 10 1)).sum := by
  refine ⟨⟨by decide, by decide, by decide, fun q f y hq hf hy => ?_⟩, by decide⟩
  have hq0 : q = 0 := by clear hf; revert q; decide
  subst hq0
  cases f with
  | first => exact ⟨rfl, rfl⟩
  | second =>
    have h : detOf ((seismicS {}).site.pathCfg 0) .second = none := by decide
    rw [h] at hf
    cases hf

theorem test_witness_confirm :
    (let s := bothS { detection := .suspect, confirmTimer := some 5, det1 := { state := .spent }
                      det2 := { state := .fired }, coverage := .degraded } false .broken
     (s.site.pathCfg 0).enabled = true ∧ (s.site.path 0).detection = .suspect ∧ (s.site.path 0).confirmTimer.isSome = true ∧
       detOf (s.site.pathCfg 0) .second = some { chan := 1 } ∧ ((s.site.path 0).det .second).state = .fired ∧
       (s.site.path 0).det1.state ≠ .fired ∧ (s.site.pathCfg 0).signs = 0) ∧
    let s := bothS { detection := .suspect, confirmTimer := some 5, det1 := { state := .fired }, declared := true } true .intact
    detOf (s.site.pathCfg 0) .first = some {} ∧ ((s.site.path 0).det .first).state = .fired ∧
      (s.site.path 0).declared = true ∧ NoNotice s.site s.road := by
  unfold NoNotice
  decide

/-! ## Hypotheses that are met: samples, stages, pages and the arbiter of the link -/

/-- The part with trigger 1 enabled on SUPPLY above 10 with no segment, a template and signs, and SUPPLY at a code and a stage. -/
def supplyS (code : Nat) (ring : List Int) (est : Bool) (stage : Stage) (deep : Nat) : State :=
  (withCfg (fun k => { k with
    triggers := k.triggers.set 0 { enabled := true, source := .supply, setLevel := 10, clearLevel := 5, template := 2, signs := 1 }
    signs := k.signs.set 0 { enabled := true } }) run0).mapSite fun e => { e with
      codes := e.codes.set 9 code, supplyIn := { ring := ring }, established := est, stage := stage, deep := deep, fall := deep
      triggers := e.triggers.set 0 { state := .armed } }

set_option maxRecDepth 20000 in
theorem test_witness_trigger_claims :
    after (exec .sampleCompletion (supplyS 2000 [] false .normal 0)) (fun u =>
      decide ((u.site.trigger 0).state = .active) && decide ((u.site.quantity .supply).quality = .good) &&
      decide ((u.road.sign 0).claims = [{ source := .trigger 0, cls := .advisory, template := 2 }])) = true ∧
    (let s := supplyS 2000 [] false .normal 0
     NoNotice s.site s.road ∧ s.road.queue = [] ∧ (s.site.trigCfg 0).segments = 0) := by
  unfold NoNotice
  decide

set_option maxRecDepth 20000 in
theorem test_witness_stages :
    -- established by the eighth good sample, below RESERVE enter
    after (exec .sampleCompletion (supplyS 1000 (List.replicate 7 700) false .normal 0)) (fun u =>
      decide (u.site.stage = .reserve) && u.site.established && decide (8 ≤ u.site.supplyIn.ring.length)) = true ∧
    -- not yet
    after (exec .sampleCompletion (supplyS 1000 [] false .normal 0)) (fun u =>
      decide (u.site.stage = .normal) && !u.site.established && decide ((u.site.quantity .supply).quality = .good)) = true ∧
    -- the tenth deep sample from NORMAL
    after (exec .sampleCompletion (supplyS 1000 (List.replicate 8 700) true .normal 9)) (fun u =>
      decide (u.site.stage = .reserve)) = true := by
  decide

set_option maxRecDepth 20000 in
theorem test_witness_stage_readers :
    -- a fall to RESERVE: the advisory in flight is to end after its answer, and a head polled 30 s ago is due
    (let s := (withRoad (fun r => { ((r.setSign 0 { sent := some { page := ⟨blankText, 2, some .advisory, none, 100, false⟩
                                                                   tag := 5 } }).setHead 0 { link := .online }).setHead 1
                  { link := .online } with link := some { head := 0, step := .text1, wait := .answer 50000, toggle := true } })
        (withCfg (fun k => { k with triggers := Vector.replicate 24 {} })
          (supplyS 1000 (List.replicate 8 700) true .normal 9))).mapSite fun e => { e with now := 30000000 }
     s.site.phase = .running ∧ (∀ k, (s.site.trigCfg k).enabled = false) ∧ NoNotice s.site s.road ∧ s.road.queue = [] ∧
       after (exec .sampleCompletion s) (fun u => decide (u.site.stage = .reserve) &&
         decide (u.site.dueAt (u.road.head 1) = some 30000000) && (u.road.head 1).due.isSome && (u.road.link.any (·.reserved))) = true) ∧
    -- a rise from RESERVE to ECONOMY: the gate queued alone starts
    let s := withRoad (fun r => { (r.setGate 1 { state := .waitRaise, target := some .up }).setGate 3 { permit := true } with
        queue := [1] })
      ((withCfg (fun k => { k with triggers := Vector.replicate 24 {}, gates := k.gates.set 1 { enabled := true } })
        (supplyS 2000 (List.replicate 8 1400) true .reserve 0)).mapSite fun e => { e with rise := 59 })
    s.road.holders < Stage.economy.permits ∧ (s.road.gate 1).limit .up = false ∧ (s.road.gate 1).trip = false ∧
      after (exec .sampleCompletion s) (fun u => decide (u.site.stage = .economy) &&
        decide ((u.road.gate 1).state = .raising) && decide (u.road.queue = [])) = true := by
  unfold NoNotice
  decide

/-- The part with sign 1 alone enabled, its head ONLINE, the link busy, and sign 1's standing template in slot 1. -/
def signS (y : Sign) (x : Slot) (stage : Stage := .normal) : State :=
  (withRoad (fun r => r.setSlot 0 x) (withCfg (fun k => { k with signs := k.signs.set 0 { enabled := true, standing := 1 } })
    (linkS { head := 1, step := .poll, wait := .answer 50000, toggle := false } { link := .online } y))).mapSite fun e =>
      { e with stage := stage }

theorem test_witness_pages :
    let t : Template := { line1 := [.char 65] }
    let shows := fun (cls : Option ClaimClass) (text : List Nat) =>
      ({ page := ⟨text, 1, cls, none, 100, false⟩, tag := 5 } : SentPage)
    let alone := fun (s : State) => s.site.phase = .running ∧ (∀ i, (s.site.signCfg i).enabled = decide (i = 0)) ∧
      s.road.link.isSome = true ∧ NoNotice s.site s.road
    let same := lineCells run0.site t.line1 ++ lineCells run0.site t.line2 ++ lineCells run0.site t.line3
    let s := signS { sent := some (shows none same), confirmed := some ⟨none, none, 5⟩ } (.valid t true)
    -- a sent page of the same text, cap and attribute and of the same claim; of another class; of another text
    (alone s ∧ slotOf (1 : TemplateNo) = some 0 ∧ s.road.slots[(0 : SlotId)] = .valid t true ∧
      (s.road.sign 0).sent = some (shows none same) ∧ s.site.stage ≠ .reserve) ∧
    alone (signS { sent := some (shows (some .schedule) same) } (.valid t true)) ∧
    blankText ≠ same ∧ alone (signS { sent := some (shows none blankText) } (.valid t true)) ∧
    -- a slot being written, an EMPTY slot, RESERVE, and no template at all
    alone (signS { pending := some ⟨⟨blankText, 0, none, none, 100, false⟩, 3⟩ } (.writing t)) ∧
    alone (signS { unusable := some ⟨none, 1, .empty⟩ } .empty) ∧ alone (signS {} .bad) ∧
    (alone (signS {} (.valid t true) .reserve) ∧ (signS {} .bad .reserve).site.stage = .reserve) ∧
    slotOf (0 : TemplateNo) = none := by
  unfold NoNotice
  decide

/-- The part with the link idle, the heads of signs 1 to 3 in a state, and pending pages on signs 2 and 3. -/
def idleS (x : LinkState) (two three : Option PendingPage) : State :=
  withRoad (fun r => ((((r.setHead 0 { link := x }).setHead 1 { link := x }).setHead 2 { link := x, due := some 7 }).setSign 1
    { pending := two }).setSign 2 { pending := three }) run0

theorem idle_no_other (x : LinkState) (two three : Option PendingPage) (i : SignId) (h : i ≠ 1) (h2 : i ≠ 2) :
    ((idleS x two three).road.sign i).pending = none := by
  simp [idleS, withRoad, run0, State.reset, Road.sign, Road.setSign, Road.setHead, Vector.getElem_set, Fin.ext_iff] at *
  simp [Ne.symm h, Ne.symm h2]

theorem test_witness_arbiter :
    let page := fun (cls : Option ClaimClass) (since : Nat) =>
      ({ page := ⟨blankText, 1, cls, none, 100, false⟩, since := since } : PendingPage)
    -- a page of class CLOSURE goes first though another is older
    (let s := idleS .online (some (page none 2)) (some (page (some .closure) 9))
     s.site.phase = .running ∧ s.road.link = none ∧ (s.road.head 2).link = .online ∧
       (s.road.sign 2).pending = some (page (some .closure) 9) ∧
       ∀ i q, i < (2 : SignId) → (s.road.sign i).pending = some q → q.page.cls ≠ some .avalanche ∧ q.page.cls ≠ some .closure) ∧
    -- the oldest of two others
    (let s := idleS .online (some (page none 9)) (some (page none 2))
     (s.road.sign 2).pending = some (page none 2) ∧
       ∀ i q, (s.road.sign i).pending = some q → 2 ≤ q.since ∧ (i < (2 : SignId) → 2 < q.since)) ∧
    -- no page: the POLL that fell due; no POLL due either
    (let s := idleS .lagging none none
     s.road.link = none ∧ (∀ g, (s.road.sign g).pending = none) ∧ (s.road.head 2).due = some 7 ∧ (s.road.head 0).due = none) ∧
    run0.road.link = none ∧ (∀ g, (run0.road.sign g).pending = none) ∧ ∀ g, (run0.road.head g).due = none := by
  refine ⟨⟨by decide, rfl, by decide, by decide, fun i q hi hq => ?_⟩, ⟨by decide, fun i q hq => ?_⟩, by decide, by decide⟩
  · by_cases h : i = 1
    · subst h
      cases hq
      decide
    · rw [idle_no_other _ _ _ i h (Fin.ne_of_lt hi)] at hq
      cases hq
  · by_cases h : i = 1
    · subst h
      cases hq
      decide
    · by_cases h2 : i = 2
      · subst h2
        cases hq
        decide
      · rw [idle_no_other _ _ _ i h h2] at hq
        cases hq

theorem test_witness_every_link_state :
    let s := fun (x : LinkState) (step : Step) (missed : Nat) =>
      linkS { head := 0, step := step, wait := .answer 50000, toggle := true } { link := x, missed := missed }
    let met := fun (s : State) => s.site.phase = .running ∧ NoNotice s.site s.road ∧ LinkQuiet s.road ∧
      s.road.link.any (fun t => t.wait == .answer 50000 && !t.rewritten && !t.reserved) = true
    (∀ step ∈ [Step.poll, .command, .text1, .text2, .confirm], ∀ k ∈ [0, 1, 2, 4], met (s .lagging step k) ∧
      met (s .online step k)) ∧
    (∀ k ∈ [0, 1, 2, 3, 4], met (s .stalled .poll k) ∧ met (s .probing .poll k) ∧ met (s .silent .poll k)) ∧
    (let u := withCfg (fun k => { k with signs := k.signs.set 0 { enabled := true } }) (s .probing .poll 2)
     met u ∧ (u.site.signCfg 0).enabled = true ∧ slotWriting u.road (pageSlot u.site u.road 0) = false) := by
  unfold LinkQuiet NoNotice
  decide

/-! ## The manual's worked cases, one step each -/

/-- R71: the default air calibration at codes 2048 and 4000, and a clamped sample. -/
theorem test_scaling :
    scaleCode { lo := -500, hi := 500 } (-500, 500) 2048 = 0 ∧ scaleCode { lo := -500, hi := 500 } (-500, 500) 4000 = 477 ∧
    scaleCode { lo := -700, hi := 700 } (-500, 500) 10 = -500 := by decide

/-- R71: the edges of the sensor fault bands. -/
theorem test_fault_bands :
    inFaultBand 8 = true ∧ inFaultBand 9 = false ∧ inFaultBand 4086 = false ∧ inFaultBand 4087 = true := by decide

/-- R60: edge 5 of the worked wind period closes a period of 31,042 ticks across one wrap. -/
theorem test_edge_closes_period :
    let x : Channel := { edgeCount := 3, reference := some 16760500, wraps := 1 }
    ((x.periodEdge { mode := .period, edges := .four, timebase := 1 } .khz125 14326 5).latest.map (·.ticks)) =
      some (some 31042) := by decide

/-- R75: that period gives a wind sample of 107 with 667 mm per pulse. -/
theorem test_wind_sample :
    periodWind 667 { ticks := some 31042, edges := .four, timebase := 1, rate := .khz125, completed := 0 } = 107 := by decide

/-- R137: a WIND of 104 tenths shows as 37 km/h. -/
theorem test_wind_cells : windCells { value := 104, quality := .good } = [32, 51, 55] := by decide

/-- R117: local time of day, also where the sum is negative. -/
theorem test_local_time : localDay 3600 1700006400 = 3600 ∧ localDay (-3600) 1000 = 83800 := by decide

/-- R121: the window from 22:00 to 06:00 is eight hours. -/
theorem test_window : windowLength { closeTime := 79200, openTime := 21600 } = 28800 := by decide

/-- R123: a ONCE entry at its close and open times. -/
theorem test_once_boundaries :
    let c : ScheduleCfg := { kind := .once, closeTime := 100, openTime := 200, lead := 10 }
    stateAt c 0 89 = .idle ∧ stateAt c 0 90 = .lead ∧ stateAt c 0 100 = .closing ∧ stateAt c 0 200 = .ended := by decide

/-- R36: from 33 to a run duty of 80 the last step goes from 78 to 80. -/
theorem test_ramp : rampToward 33 80 = 38 ∧ rampToward 78 80 = 80 := by decide

/-- R79: with RH of 1000 the dew point is the air temperature; with RH of 0 it lies 200 below. -/
theorem test_dew :
    dewOf { value := 10, quality := .good } { value := 1000, quality := .good } = { value := 10, quality := .good } ∧
    dewOf { value := 10, quality := .stale } { value := 0, quality := .good } = { value := -190, quality := .stale } := by
  decide

/-- R173: the tenth sample below RESERVE enter takes NORMAL to RESERVE in one step. -/
theorem test_deep_fall :
    supplyMove {} { stage := .normal, fall := 9, deep := 9, rise := 0 } 1119 =
      { stage := .reserve, fall := 0, deep := 0, rise := 0 } := by decide

/-- R118: the clock wraps at a second event. -/
theorem test_clock_wraps :
    (run0.mapSite fun e => { e with clock := some 4294967295 }).site.tick.clock = some 0 := by decide

/-- R180: CRC of no bytes is the initial value; the start byte alone leaves HUNT. -/
theorem test_receiver_start : crc16 [] = 0xFFFF#16 ∧ judgeInHunt 0xA5 = .length ∧ judgeInHunt 0x5A = .hunt := by decide

/-- R19: an operator closes an open segment without signs or gates: NOTICE, then CLEARING. -/
theorem test_close_segment :
    after (exec (.closeSegment 9 (.fits 1)) (segS {})) (fun t => decide ((t.road.segment 0).state = .clearing) &&
      decide ((t.road.segment 0).sweepTimer = some 600000000) && decide (t.road.reports.length = 4)) = true := by decide

/-- R3: a PUT_SEGMENT clamps its limits. -/
theorem test_put_segment_clamps :
    segmentOf { index := 1, enabled := some true, noticeSet := 0, closureTemplate := 1, noticeLimit := 20, sweepTime := 9999
                reopenMode := some .automatic } =
      some { enabled := true, closureTemplate := 1, noticeLimit := 30, sweepTime := 3600, reopenMode := .automatic } := by
  decide

/-- R34: a gate granted a permit starts to lower at its start duty. -/
theorem test_grant_starts :
    after (exec (.presenceChange 1 false)
        (withRoad (fun r => { r with queue := [1] }) (gateS { state := .waitLower, presence := true, target := some .down })))
      (fun t => decide ((t.road.gate 1).state = .lowering) && (t.road.gate 1).permit && decide ((t.road.gate 1).duty = 30)) =
      true := by decide

/-- R133: a full list displaces its last claim for one of a higher class, and refuses one that is not. -/
theorem test_full_list :
    let l := (List.finRange 8).map fun k => ({ source := .trigger ⟨k.val, by omega⟩, cls := .advisory, template := 1 } : Claim)
    (postedList { source := .segment 0, cls := .closure, template := 1 } l).2.1 = some (.trigger 7) ∧
    (postedList { source := .trigger 9, cls := .advisory, template := 1 } l).2.2 = true := by decide

/-- R112: the FAST pattern of phase A, and its pattern in RESERVE. -/
theorem test_beacon_masks : beaconMask .fast .a .normal = 0x55#8 ∧ beaconMask .fast .a .reserve = 0x11#8 := by decide

/-- R149: page tags run from 1 to 255 and back. -/
theorem test_tag_wraps : advanceTag 255 = 1#8 ∧ advanceTag 1 = 2#8 := by decide

/-- R186: the highest class is delivered first, the oldest of it before the newer. -/
theorem test_pick_order :
    let rep := fun (k : ReportKind) (n : Nat) => ({ kind := k, subject := n, value := .none, stamp := none } : Report)
    (pickReports 2 [rep .storeDone 1, rep .pathReleased 2, rep .start 3, rep .pathBlind 4]).1.map (·.subject) = [2, 4] := by
  decide

set_option maxRecDepth 20000 in
/-- R6, R23, R48: a gate guarding a segment that is not enabled is targeted UP at the end of LOADING, and is queued from DOWN. -/
theorem test_disabled_segment_targets :
    let s := withRoad (fun r => r.setGate 1 { downLimit := true, trip := true })
      (withCfg (fun k => { k with gates := k.gates.set 1 { enabled := true } }) State.reset)
    after (exec .loadingEnd s) (fun t => decide ((t.road.gate 1).target = some .up) &&
      decide ((t.road.gate 1).state = .tripped)) = true := by decide

set_option maxRecDepth 20000 in
/-- R61: at 1 MHz a level time that has stopped at 65,535 ms stays there across a fifth wrap. -/
theorem test_level_time_stays :
    let s := (withCfg (fun k => { k with channels := k.channels.set 0 { mode := .lowWidth } }) run0).mapSite fun e =>
      (e.setChan 0 { levelCount := 16777000, levelWraps := 4 })
    s.site.lowMs 0 = 50332 ∧ (s.mapSite fun e => (e.setChan 0 { levelCount := 16777000, levelWraps := 4, levelHeld := true })
      |> Site.wrap 0).site.lowMs 0 = 65535 := by decide

/-- R36: a ramp step writes the duty to the buffer at its moment. -/
theorem test_ramp_writes :
    after (exec (.rampStep 1) (gateS { state := .raising, target := some .up, duty := 30, rampTimer := some 100000 }))
      (fun t => decide ((t.road.gate 1).duty = 35) && decide ((t.road.gate 1).dutyAt = 100000) &&
        decide ((t.road.gate 1).rampTimer = some 200000)) = true := by decide

/-- R118: a second event that is taken late does not shift the seconds after it. -/
theorem test_seconds_keep_phase :
    let s := run0.mapSite fun e => { e with clock := some 5, secondEnd := some 1000000, now := 1000007 }
    after (exec .secondEvent s) (fun t => decide (t.site.clock = some 6) && decide (t.site.secondEnd = some 2000000)) = true := by
  decide

/-- R180: a start byte with a stop-bit error that ends a gap opens no frame. -/
theorem test_bad_byte_after_gap :
    (rxS .length 20001).receiveByte true 0xA5 =
      { rxS .hunt 20001 with
        site := { (rxS .hunt 20001).site with rxLast := 20001 }, pending := [.cabinetFrameDiscarded .stopBit] } := rfl

set_option maxRecDepth 20000 in
/-- R101: a write that disables its path still finds a torn trip-line. -/
theorem test_torn_wire_found :
    let s := pathS { enabled := true } {} { mode := .lowWidth } { continuity := .broken }
    after (exec (.putPath 9 (.fits { pathReq with enabled := some false, det1 := { detReq with chan := .num 0 } })) s)
      (fun t => decide ((t.site.path 0).det1.state = .spent) &&
        t.road.reports.any (·.kind == .triplineFoundBroken)) = true := by decide

/-- Conventions: other times round to the nearest, halves up. -/
theorem test_nearest : nearest 1499 1000 = 1 ∧ nearest 1500 1000 = 2 := by decide

/-- R177: nothing is driven right after reset. -/
theorem test_reset_is_quiet : State.reset.quietOutputs = true := by decide

end Sys2Proof.Tests
end

section
/-! Proofs of the measurement reads: GET_QUANTITIES, GET_SUPPLY and GET_RECORD for the supply kind (R85, R176, R184). -/

namespace Sys2Proof.Machine

variable {α : Type} {k g : Byte} {s : State}

/-- In LOADING a request that is not answered early is refused with BUSY before its body or its own checks are looked at
(R181). -/
theorem takeRequest_loading {b : Body α} {act : α → State → Verdict} (hphase : s.site.phase = .loading)
    (hfree : s.site.requestPending = false) (hroom : s.site.tx.length < 4) :
    s.takeRequest k g false b act = s.replied k g .busy .none := by
  have hheld : s.site.phase ≠ .held := by rw [hphase]; decide
  have hfull : ¬ transmitCapacity ≤ s.frameEnded.site.tx.length := Nat.not_le.mpr hroom
  have hpending : ¬ s.frameEnded.site.requestPending = true := Bool.eq_false_iff.mp hfree
  have hbusy : judge false b act s.frameEnded = .refuse .busy := by
    have hloading : s.frameEnded.site.phase = .loading := hphase
    simp [judge, Site.running, hloading]
  calc s.takeRequest k g false b act
      = s.frameEnded.conclude k g (judge false b act s.frameEnded) :=
        (if_neg hheld).trans ((if_neg hfull).trans (if_neg hpending))
    _ = s.replied k g .busy .none := by rw [hbusy]; rfl

/-- The permit holders, counted, are as many as the gates that hold a permit, listed. -/
theorem Road.holders_eq_length_filter (r : Road) :
    r.holders = ((List.finRange 8).filter fun x => (r.gate x).permit).length :=
  List.countP_eq_length_filter

/-- SUPPLY stands last in the quantity table (R81). -/
theorem Site.quantity_supply (e : Site) : e.quantity .supply = e.table[(21 : Fin 22)] := rfl

/-- R85: GET_QUANTITIES reads the whole table and the fill of the A9 ring. -/
theorem exec_getQuantities_ready (h : Ready s) :
    exec (.getQuantities g (.fits ())) s =
      .next (s.replied 0x45 g .ok (.quantities s.site.table s.site.supplyIn.ring.length)) :=
  congrArg Host.Outcome.next (takeRequest_read h rfl)

/-- R176: GET_SUPPLY reads the Supply Monitor; no check of the store operation stands before it. -/
theorem exec_getSupply_ready (h : Ready s) :
    exec (.getSupply g (.fits ())) s = .next (s.replied 0x47 g .ok (.supply (supplyView s))) :=
  congrArg Host.Outcome.next (takeRequest_read h rfl)

/-- R184: of the supply kind GET_RECORD reads the record, with no measurement status beside it. -/
theorem exec_getRecord_supply_ready (h : Ready s) :
    exec (.getRecord g (.fits { kind := 9, index := 0 })) s =
      .next (s.replied 0x1C g .ok (.record 0 (.supply s.site.cfg.supply) .none)) :=
  congrArg Host.Outcome.next (takeRequest_read h rfl)

/-- Settles O17. What a RUNNING part answers is one read lemma per request; the figures that follow the supply stage
(R32, R136, R159) are read off stage by stage. -/
theorem quantitiesAndSupplyReads : Obligations.QuantitiesAndSupplyReads := by
  refine ⟨fun g s h => exec_getQuantities_ready h, ?loading, ?supply, fun g s h => exec_getRecord_supply_ready h⟩
  case loading =>
    intro g s hphase hfree hroom
    exact congrArg Host.Outcome.next (takeRequest_loading hphase hfree hroom)
  case supply =>
    intro g s h
    rw [exec_getSupply_ready h, supplyView, Road.holders_eq_length_filter, Site.quantity_supply]
    cases s.site.stage <;> rfl

end Sys2Proof.Machine
end

section
/-! Proof that every step keeps ATTN in line with the report queue (R187): what reacts on the road. -/

namespace Sys2Proof.Machine

/-! ## ATTN against one report queue -/

/-- ATTN of a road stands as a site's phase and attention level call for (R187). -/
def AttnAt (e : Site) (r : Road) : Prop := r.attn = attnOf e r.reports

/-- The invariant of a state is that of its road under its site. -/
theorem attnOk_iff (s : State) : AttnOk s ↔ AttnAt s.site s.road := by
  simp only [AttnOk, AttnAt, attnOf, Site.running, Bool.eq_iff_iff (b := _ && _), Bool.and_eq_true, beq_iff_eq,
    List.any_eq_true, decide_eq_true_eq]

variable {e : Site} {r : Road} {tell : Listener} {g : GateId} {d : Dir} {h : SignId} {n : SegId}

theorem attnAt_ite {c : Prop} [Decidable c] {a b : Road} (ha : AttnAt e a) (hb : AttnAt e b) :
    AttnAt e (if c then a else b) := by split <;> assumption

/-- A reaction that takes place under a condition. -/
theorem attnAt_when {c : Prop} [Decidable c] {f : Road → Road} (hf : ∀ {r}, AttnAt e r → AttnAt e (f r))
    (hr : AttnAt e r) : AttnAt e (if c then f r else r) := attnAt_ite (hf hr) hr

theorem attnAt_foldl {α : Type} {f : Road → α → Road} {l : List α} (hf : ∀ r a, AttnAt e r → AttnAt e (f r a))
    (hr : AttnAt e r) : AttnAt e (l.foldl f r) :=
  List.foldlRecOn l f hr fun r hr a _ => hf r a hr

/-- A report leaves ATTN evaluated, whatever it was before. -/
theorem report_attnAt {k : ReportKind} {m : Nat} {v : ReportValue} : AttnAt e (r.report e k m v) :=
  Road.arrive_attn e _ r

/-- The link arbiter touches neither the queue nor ATTN. -/
theorem linkArbitrate_attnAt (hr : AttnAt e r) : AttnAt e (linkArbitrate e r) := by
  simpa [AttnAt] using hr

theorem setLinkTo_attnAt {t : Option Transaction} (hr : AttnAt e r) : AttnAt e (r.setLinkTo t) := hr

/-- A listener keeps ATTN in line. -/
def KeepsAttn (e : Site) (tell : Listener) : Prop := ∀ x r, AttnAt e r → AttnAt e (tell x r)

section
variable (ht : KeepsAttn e tell)
include ht

/-! ## Gates -/

theorem enterRest_attnAt (hr : AttnAt e r) : AttnAt e (enterRest tell g d r) := ht _ _ hr

theorem enterFault_attnAt {c : FaultCause} : AttnAt e (enterFault e tell g c r) := ht _ _ report_attnAt

theorem restOrQueue_attnAt (hr : AttnAt e r) : AttnAt e (restOrQueue e tell g r) := by
  unfold restOrQueue
  split
  exacts [enterFault_attnAt ht, enterRest_attnAt ht hr, enterRest_attnAt ht hr, hr, hr]

omit ht in
theorem startMotion_attnAt {b : Bool} (hr : AttnAt e r) : AttnAt e (startMotion e g d b r) :=
  attnAt_ite report_attnAt hr

theorem grant_attnAt (hr : AttnAt e r) : AttnAt e (grant e tell g r) := by
  unfold grant
  dsimp only
  split
  exacts [enterFault_attnAt ht, enterRest_attnAt ht hr, enterRest_attnAt ht hr, startMotion_attnAt hr]

theorem arbitrate_attnAt (k : Nat) (hr : AttnAt e r) : AttnAt e (arbitrate e tell k r) := by
  induction k generalizing r with
  | zero => exact hr
  | succ k ih =>
    refine attnAt_ite ?_ hr
    split
    · exact ih (grant_attnAt ht hr)
    · exact hr

theorem permits_attnAt (hr : AttnAt e r) : AttnAt e (permits e tell r) := arbitrate_attnAt ht 16 hr

theorem setTarget_attnAt (hr : AttnAt e r) : AttnAt e (setTarget e tell g d r) := by
  refine attnAt_ite hr ?_
  cases (r.gate g).state with
  | up | down => exact attnAt_ite hr hr
  | waitLower | waitRaise => exact restOrQueue_attnAt ht hr
  | blocked => exact attnAt_ite (restOrQueue_attnAt ht hr) hr
  | _ => exact hr

theorem arriveAt_attnAt (hr : AttnAt e r) : AttnAt e (arriveAt e tell g d r) :=
  permits_attnAt ht (enterRest_attnAt ht hr)

theorem limitChange_attnAt {up down : Bool} (hr : AttnAt e r) : AttnAt e (limitChange e tell g up down r) := by
  refine attnAt_ite hr (attnAt_ite hr (attnAt_ite hr (attnAt_ite hr (attnAt_ite ?_ ?_))))
  · exact permits_attnAt ht (enterFault_attnAt ht)
  · have harrival {c : Prop} [Decidable c] {d : Dir} {x : Road} (hx : AttnAt e x) :
        AttnAt e (if c then arriveAt e tell g d x else x) := attnAt_when (arriveAt_attnAt ht) hx
    dsimp only
    split
    exacts [harrival hr, harrival hr, harrival hr, harrival hr, harrival hr, harrival hr, harrival hr, hr, hr, hr]

theorem presenceChanged_attnAt {b : Bool} (hr : AttnAt e r) : AttnAt e (presenceChanged e tell g b r) := by
  refine attnAt_ite hr (attnAt_ite hr ?_)
  split
  exacts [permits_attnAt ht report_attnAt, hr, hr, permits_attnAt ht hr, hr]

theorem tripInput_attnAt {b : Bool} (hr : AttnAt e r) : AttnAt e (tripInput e tell g b r) :=
  attnAt_ite (permits_attnAt ht report_attnAt) hr

theorem travelExpired_attnAt (hr : AttnAt e r) : AttnAt e (travelExpired e tell g r) :=
  attnAt_ite (permits_attnAt ht (enterFault_attnAt ht)) hr

theorem pauseExpired_attnAt (hr : AttnAt e r) : AttnAt e (pauseExpired e tell g r) := by
  refine attnAt_ite ?_ hr
  split
  · exact hr
  · exact attnAt_ite (arriveAt_attnAt ht hr)
      (attnAt_ite (permits_attnAt ht report_attnAt) (permits_attnAt ht (startMotion_attnAt hr)))

theorem holdOffExpired_attnAt (hr : AttnAt e r) : AttnAt e (holdOffExpired e tell g r) :=
  attnAt_ite (permits_attnAt ht hr) hr

theorem retryExpired_attnAt (hr : AttnAt e r) : AttnAt e (retryExpired e tell g r) :=
  attnAt_ite (attnAt_ite (permits_attnAt ht (restOrQueue_attnAt ht hr)) (enterFault_attnAt ht)) hr

theorem displaceExpired_attnAt (hr : AttnAt e r) : AttnAt e (displaceExpired e tell g r) := by
  unfold displaceExpired
  split
  exacts [permits_attnAt ht (report_attnAt (r := r)), permits_attnAt ht (report_attnAt (r := r)), hr]


/-! ## Signs -/

omit ht in
theorem testSlot_attnAt {k : SlotId} (hr : AttnAt e r) : AttnAt e (testSlot e k r) := by
  unfold testSlot
  split
  exacts [report_attnAt, hr]

omit ht in
theorem noteUnusable_attnAt {t : TemplateNo} {k : SlotKind} (hr : AttnAt e r) : AttnAt e (noteUnusable e h t k r) :=
  attnAt_ite hr report_attnAt

omit ht in
theorem chooseText_attnAt (hr : AttnAt e r) : AttnAt e (chooseText e h r).1 := by
  unfold chooseText
  dsimp only
  split
  · exact hr
  · split
    · exact hr
    · have hslot := testSlot_attnAt (k := ‹SlotId›) hr
      split
      exacts [hslot, hslot, noteUnusable_attnAt hslot, noteUnusable_attnAt hslot]

omit ht in
theorem pend_attnAt {p : Page} (hr : AttnAt e r) : AttnAt e (pend h p r) := by
  unfold pend
  split <;> exact hr

theorem setConfirmed_attnAt {c : Option Confirmed} (hr : AttnAt e r) : AttnAt e (setConfirmed tell h c r) :=
  attnAt_ite hr (ht _ _ hr)

theorem relabel_attnAt {p : Page} {q : SentPage} (hr : AttnAt e r) : AttnAt e (relabel tell h p q r) := by
  refine attnAt_ite hr ?_
  split
  · exact attnAt_ite (setConfirmed_attnAt ht hr) hr
  · exact hr

theorem offerPage_attnAt {b : Bool} {p : Page} (hr : AttnAt e r) : AttnAt e (offerPage e tell h b p r) := by
  have hpend : AttnAt e (linkArbitrate e (pend h p r)) := linkArbitrate_attnAt (pend_attnAt hr)
  unfold offerPage
  split
  · exact hpend
  · exact attnAt_ite hpend (relabel_attnAt ht hr)

theorem render_attnAt {b : Bool} (hr : AttnAt e r) : AttnAt e (render e tell h b r) :=
  attnAt_ite hr (attnAt_ite hr (offerPage_attnAt ht (chooseText_attnAt hr)))

theorem renderAll_attnAt (hr : AttnAt e r) : AttnAt e (renderAll e tell r) :=
  attnAt_foldl (fun _ _ hr => render_attnAt ht hr) hr

theorem renderSlot_attnAt {t : TemplateNo} (hr : AttnAt e r) : AttnAt e (renderSlot e tell t r) :=
  attnAt_foldl (fun _ _ hr => attnAt_ite (render_attnAt ht hr) hr) hr

theorem withList_attnAt {f : Road → Road} (hf : AttnAt e (f r)) : AttnAt e (withList e tell h f r) :=
  attnAt_ite hf (render_attnAt ht hf)

theorem post_attnAt {c : Claim} (hr : AttnAt e r) : AttnAt e (post e tell h c r) := by
  refine withList_attnAt ht ?_
  dsimp only
  split
  exacts [report_attnAt, report_attnAt, hr]

theorem postAll_attnAt {set : SignSet} {c : Claim} (hr : AttnAt e r) : AttnAt e (postAll e tell set c r) :=
  attnAt_foldl (fun _ _ hr => post_attnAt ht hr) hr

theorem withdrawAll_attnAt {set : SignSet} {src : Source} (hr : AttnAt e r) :
    AttnAt e (withdrawAll e tell set src r) :=
  attnAt_foldl (fun _ _ hr => withList_attnAt ht hr) hr

/-! ## Segments -/

theorem targetGuards_attnAt (hr : AttnAt e r) : AttnAt e (targetGuards e tell n d r) :=
  permits_attnAt ht (attnAt_foldl (fun _ _ hr => setTarget_attnAt ht hr) hr)

omit ht in
theorem endPass_attnAt {c : PassEnd} (hr : AttnAt e r) : AttnAt e (endPass e g c r) := attnAt_ite report_attnAt hr

theorem cancelPasses_attnAt {p : PathId} (hr : AttnAt e r) : AttnAt e (cancelPasses e tell n p r) :=
  permits_attnAt ht (attnAt_foldl (fun _ _ hr => attnAt_ite (setTarget_attnAt ht report_attnAt) hr) hr)

omit ht in
theorem startPass_attnAt (hr : AttnAt e r) : AttnAt e (startPass e g r) := by
  unfold startPass
  split <;> exact hr

theorem evalOpen_attnAt (hr : AttnAt e r) : AttnAt e (evalOpen e tell n r) :=
  attnAt_ite (withdrawAll_attnAt ht report_attnAt) hr

omit ht in
theorem reportGates_attnAt {k : ReportKind} {l : List GateId} (hr : AttnAt e r) :
    AttnAt e (reportGates e k n l r) :=
  attnAt_foldl (fun _ _ _ => report_attnAt) hr

theorem enterReopening_attnAt : AttnAt e (enterReopening e tell n r) :=
  evalOpen_attnAt ht (reportGates_attnAt (targetGuards_attnAt ht
    (attnAt_foldl (fun _ _ hr => endPass_attnAt hr) report_attnAt)))

theorem evalReopen_attnAt (hr : AttnAt e r) : AttnAt e (evalReopen e tell n r) :=
  attnAt_ite (enterReopening_attnAt ht) hr

theorem evalClosed_attnAt (hr : AttnAt e r) : AttnAt e (evalClosed e tell n r) :=
  attnAt_ite (evalReopen_attnAt ht (targetGuards_attnAt ht report_attnAt)) hr

omit ht in
theorem markUnguarded_attnAt {l : List GateId} (hr : AttnAt e r) : AttnAt e (markUnguarded e n l r) :=
  attnAt_ite hr (reportGates_attnAt hr)

theorem sweepExpired_attnAt (hr : AttnAt e r) : AttnAt e (sweepExpired e tell n r) :=
  attnAt_ite (evalClosed_attnAt ht hr) hr

theorem enterClearing_attnAt : AttnAt e (enterClearing e tell n r) :=
  have hr := markUnguarded_attnAt (targetGuards_attnAt ht report_attnAt)
  attnAt_ite (sweepExpired_attnAt ht hr) hr

theorem evalNotice_attnAt (hr : AttnAt e r) : AttnAt e (evalNotice e tell n r) :=
  attnAt_ite (enterClearing_attnAt ht) hr

theorem enterNotice_attnAt : AttnAt e (enterNotice e tell n r) :=
  evalNotice_attnAt ht (targetGuards_attnAt ht report_attnAt)

theorem noticeExpired_attnAt (hr : AttnAt e r) : AttnAt e (noticeExpired e tell n r) :=
  attnAt_ite (enterClearing_attnAt ht) hr

theorem holdJoined_attnAt {x : Hold} (hr : AttnAt e r) : AttnAt e (holdJoined e tell n x r) := by
  unfold holdJoined
  split
  · exact attnAt_ite (enterClearing_attnAt ht) (enterNotice_attnAt ht)
  · exact attnAt_ite (enterClearing_attnAt ht) hr
  · exact hr
  · split
    exacts [cancelPasses_attnAt ht hr, hr]
  · exact enterClearing_attnAt ht

theorem holdLeft_attnAt (hr : AttnAt e r) : AttnAt e (holdLeft e tell n r) := by
  unfold holdLeft
  split
  exacts [attnAt_ite (enterReopening_attnAt ht) hr, evalReopen_attnAt ht hr, hr]

/-! ## Signals -/

theorem gateRested_attnAt (hr : AttnAt e r) : AttnAt e (gateRested e tell g d r) := by
  refine attnAt_ite hr ?_
  split
  exacts [evalOpen_attnAt ht (startPass_attnAt hr), evalClosed_attnAt ht hr]

theorem gateFaulted_attnAt (hr : AttnAt e r) : AttnAt e (gateFaulted e tell g r) := by
  refine attnAt_ite hr ?_
  dsimp only
  have hend {c : Prop} [Decidable c] {d : Dir} {x : PassEnd} :
      AttnAt e (if c then setTarget e tell g d (endPass e g x r) else r) :=
    attnAt_ite (setTarget_attnAt ht (endPass_attnAt hr)) hr
  split
  exacts [evalClosed_attnAt ht (markUnguarded_attnAt hend), markUnguarded_attnAt hend, reportGates_attnAt hend, hend]

theorem signChanged_attnAt (hr : AttnAt e r) : AttnAt e (signChanged e tell h r) :=
  attnAt_foldl (fun _ _ hr => attnAt_ite (evalNotice_attnAt ht hr) hr) hr

theorem hearWith_keepsAttn : KeepsAttn e (hearWith e tell)
  | .gateAt _ _, _, hr => gateRested_attnAt ht hr
  | .gateFaulted _, _, hr => gateFaulted_attnAt ht hr
  | .signChanged _, _, hr => signChanged_attnAt ht hr

omit ht in
/-- Signals nested to any depth keep ATTN in line, by induction on the depth. -/
theorem hear_keepsAttn (e : Site) : ∀ k, KeepsAttn e (hear e k)
  | 0 => fun _ _ hr => hr
  | k + 1 => hearWith_keepsAttn (hear_keepsAttn e k)

omit ht in
theorem listener_keepsAttn (e : Site) : KeepsAttn e (listener e) := hear_keepsAttn e 64

/-! ## Sign link -/

theorem setLink_attnAt {new : LinkState} {c : StallCause} (hr : AttnAt e r) : AttnAt e (setLink e tell h new c r) := by
  have htold {x : Road} {k : ReportKind} {m : Nat} {v : ReportValue} :
      AttnAt e (tell (.signChanged h) (x.report e k m v)) := ht _ _ report_attnAt
  exact attnAt_ite hr (attnAt_ite (attnAt_ite (linkArbitrate_attnAt htold)
    (attnAt_ite htold (render_attnAt ht htold))) htold)

omit ht in
theorem setMissed_attnAt {k : Nat} (hr : AttnAt e r) : AttnAt e (setMissed h k r) := hr

theorem missedAnswer_attnAt (hr : AttnAt e r) : AttnAt e (missedAnswer e tell h r) := by
  unfold missedAnswer
  cases (r.head h).link with
  | probing | lagging | stalled => exact attnAt_ite hr (setLink_attnAt ht hr)
  | online => exact setLink_attnAt ht hr
  | silent | unconfigured => exact hr

theorem badStatus_attnAt (hr : AttnAt e r) : AttnAt e (badStatus e tell h r) := by
  unfold badStatus
  split
  exacts [missedAnswer_attnAt ht hr, hr, setLink_attnAt ht hr]

omit ht in
theorem endTransaction_attnAt (hr : AttnAt e r) : AttnAt e (endTransaction e h r) :=
  linkArbitrate_attnAt (setLinkTo_attnAt hr)

theorem goodAnswer_attnAt (hr : AttnAt e r) : AttnAt e (goodAnswer e tell h r) :=
  attnAt_ite (setLink_attnAt ht hr) hr

variable {t : Transaction}

omit ht in
theorem sendFrame_attnAt {p : Step} {b : Bool} (hr : AttnAt e r) : AttnAt e (sendFrame e t p b r) := hr

omit ht in
theorem abandonLoad_attnAt {c : AbandonCause} : AttnAt e (abandonLoad e h c r) := report_attnAt

theorem takeAck_attnAt (hr : AttnAt e r) : AttnAt e (takeAck e tell t r) :=
  attnAt_ite (endTransaction_attnAt (goodAnswer_attnAt ht hr)) (sendFrame_attnAt (goodAnswer_attnAt ht hr))

theorem takeNak_attnAt (hr : AttnAt e r) : AttnAt e (takeNak e tell t r) := by
  refine attnAt_ite (endTransaction_attnAt (goodAnswer_attnAt ht hr)) (attnAt_ite ?again ?abandoned)
  case again => exact setLinkTo_attnAt (goodAnswer_attnAt ht hr)
  case abandoned => exact endTransaction_attnAt (setLink_attnAt ht (setMissed_attnAt abandonLoad_attnAt))

theorem takeStall_attnAt (hr : AttnAt e r) : AttnAt e (takeStall e tell t r) :=
  endTransaction_attnAt (setLink_attnAt ht (attnAt_ite hr abandonLoad_attnAt))

theorem takeDataMiss_attnAt (hr : AttnAt e r) : AttnAt e (takeDataMiss e tell t r) :=
  attnAt_ite (endTransaction_attnAt (missedAnswer_attnAt ht hr))
    (attnAt_ite (sendFrame_attnAt (missedAnswer_attnAt ht hr)) (endTransaction_attnAt abandonLoad_attnAt))

theorem takePollMiss_attnAt (hr : AttnAt e r) : AttnAt e (takePollMiss e tell t r) :=
  attnAt_ite (sendFrame_attnAt (missedAnswer_attnAt ht hr)) (endTransaction_attnAt (missedAnswer_attnAt ht hr))

theorem takePollBad_attnAt (hr : AttnAt e r) : AttnAt e (takePollBad e tell t r) :=
  endTransaction_attnAt (badStatus_attnAt ht hr)

omit ht in
theorem statusUnconfirmed_attnAt {b : Bool} {st : HeadStatus} (hr : AttnAt e r) :
    AttnAt e (statusUnconfirmed e h b st r) := by
  unfold statusUnconfirmed
  split
  exacts [attnAt_ite hr report_attnAt, hr]

omit ht in
theorem statusFlags_attnAt {before : Option HeadStatus} {st : HeadStatus} (hr : AttnAt e r) :
    AttnAt e (statusFlags e h before st r) := attnAt_ite report_attnAt hr

omit ht in
theorem statusRestart_attnAt {before : Option HeadStatus} {st : HeadStatus} (hr : AttnAt e r) :
    AttnAt e (statusRestart e h before st r) := attnAt_ite report_attnAt hr

theorem statusReload_attnAt {st : HeadStatus} (hr : AttnAt e r) : AttnAt e (statusReload e tell h st r) :=
  attnAt_when (render_attnAt ht) hr

theorem goodStatus_attnAt {b : Bool} {st : HeadStatus} (hr : AttnAt e r) : AttnAt e (goodStatus e tell h b st r) :=
  statusReload_attnAt ht (setLink_attnAt ht (statusRestart_attnAt (statusFlags_attnAt (statusUnconfirmed_attnAt
    (setConfirmed_attnAt ht hr)))))

theorem takeStatus_attnAt {st : HeadStatus} (hr : AttnAt e r) : AttnAt e (takeStatus e tell t st r) :=
  endTransaction_attnAt (goodStatus_attnAt ht hr)

theorem takeAnswer_attnAt {a : Answer} (hr : AttnAt e r) : AttnAt e (takeAnswer e tell a r) := by
  unfold takeAnswer
  split
  · exact hr
  · split
    · exact hr
    · refine attnAt_ite (linkArbitrate_attnAt hr) (attnAt_ite ?data ?poll)
      case data =>
        cases a with
        | ack => exact takeAck_attnAt ht hr
        | nak => exact takeNak_attnAt ht hr
        | stall => exact takeStall_attnAt ht hr
        | status | bad | missed => exact takeDataMiss_attnAt ht hr
      case poll =>
        cases a with
        | status => exact takeStatus_attnAt ht hr
        | missed => exact takePollMiss_attnAt ht hr
        | ack | nak | stall | bad => exact takePollBad_attnAt ht hr

omit ht in
theorem nakWaitEnded_attnAt (hr : AttnAt e r) : AttnAt e (nakWaitEnded e r) := by
  unfold nakWaitEnded
  split
  · split <;> exact hr
  · exact hr

omit ht in
theorem fallDue_attnAt (hr : AttnAt e r) : AttnAt e (fallDue e h r) := attnAt_ite hr hr

omit ht in
theorem abandonRewrite_attnAt (hr : AttnAt e r) : AttnAt e (abandonRewrite h r) := by
  unfold abandonRewrite
  split
  · refine attnAt_ite ?_ hr
    split <;> exact hr
  · exact hr

theorem restartHead_attnAt {b : Bool} (hr : AttnAt e r) : AttnAt e (restartHead e tell h b r) :=
  setLink_attnAt ht (abandonRewrite_attnAt hr)

omit ht in
theorem abandonReserved_attnAt (hr : AttnAt e r) : AttnAt e (abandonReserved e r) := by
  unfold abandonReserved
  split
  · refine attnAt_ite ?_ hr
    split
    exacts [endTransaction_attnAt hr, hr]
  · exact hr

omit ht in
theorem discardBlankable_attnAt (hr : AttnAt e r) : AttnAt e (discardBlankable e r) :=
  attnAt_foldl (fun _ _ hr => attnAt_ite hr hr) hr

/-! ## Readers of a supply stage -/

theorem gatesTakeStage_attnAt {old : Stage} (hr : AttnAt e r) : AttnAt e (gatesTakeStage e tell old r) :=
  attnAt_ite (permits_attnAt ht hr) hr

theorem signsTakeStage_attnAt (hr : AttnAt e r) : AttnAt e (signsTakeStage e tell r) :=
  renderAll_attnAt ht (attnAt_ite (abandonReserved_attnAt (discardBlankable_attnAt hr)) hr)

omit ht in
theorem dueByStage_attnAt (hr : AttnAt e r) : AttnAt e (dueByStage e h r) := by
  unfold dueByStage
  split
  exacts [attnAt_ite (fallDue_attnAt hr) hr, hr]

omit ht in
theorem linkTakesStage_attnAt (hr : AttnAt e r) : AttnAt e (linkTakesStage e r) :=
  linkArbitrate_attnAt (attnAt_foldl (fun _ _ hr => dueByStage_attnAt hr) hr)

/-! ## Records, passes and faults -/

omit ht in
theorem gateRewritten_attnAt {b : Bool} (hr : AttnAt e r) : AttnAt e (gateRewritten e b g r) := by
  refine attnAt_ite hr (attnAt_ite hr ?_)
  split
  exacts [report_attnAt, hr]

omit ht in
theorem gateJoins_attnAt (hr : AttnAt e r) : AttnAt e (gateJoins e g r) := by
  refine attnAt_ite ?_ hr
  split
  exacts [markUnguarded_attnAt hr, markUnguarded_attnAt hr, reportGates_attnAt hr, hr, hr]

theorem evalGuards_attnAt (hr : AttnAt e r) : AttnAt e (evalGuards e tell n r) :=
  evalOpen_attnAt ht (evalClosed_attnAt ht hr)

theorem gateWritten_attnAt {o : GateCfg} (hr : AttnAt e r) : AttnAt e (gateWritten e tell o g r) := by
  have h1 := gateRewritten_attnAt (g := g) (b := o.enabled) hr
  refine permits_attnAt ht (attnAt_when (evalGuards_attnAt ht) (attnAt_when (evalGuards_attnAt ht) (endPass_attnAt ?_)))
  exact attnAt_ite (setTarget_attnAt ht (attnAt_ite h1 (gateJoins_attnAt h1))) h1

theorem signWritten_attnAt (hr : AttnAt e r) : AttnAt e (signWritten e tell h r) :=
  linkArbitrate_attnAt (render_attnAt ht (restartHead_attnAt ht (setConfirmed_attnAt ht hr)))

theorem passExpired_attnAt (hr : AttnAt e r) : AttnAt e (passExpired e tell g r) := by
  unfold passExpired
  split
  exacts [permits_attnAt ht report_attnAt, hr, hr]

theorem grantPass_attnAt {k : Nat} (hr : AttnAt e r) : AttnAt e (grantPass e tell g k r) :=
  attnAt_ite hr (permits_attnAt ht (setTarget_attnAt ht hr))

theorem clearFault_attnAt (hr : AttnAt e r) : AttnAt e (clearFault e tell g r) :=
  permits_attnAt ht (restOrQueue_attnAt ht hr)

end

end Sys2Proof.Machine
end

section
/-! Proof that every step keeps ATTN in line with the report queue (R187): the commands. -/
namespace Sys2Proof.Machine

variable {s : State}

/-! ## Building blocks -/

/-- What ATTN reads of a site. -/
def Site.attnKey (e : Site) : Phase × ReportClass := (e.phase, e.cfg.attention)

theorem attnOf_congr {e e' : Site} (h : e'.attnKey = e.attnKey) : attnOf e' = attnOf e := by
  obtain ⟨hphase, hlevel⟩ := Prod.mk.inj h
  funext l
  simp only [attnOf, Site.running, hphase, hlevel]

theorem attnAt_congr {e e' : Site} {r : Road} (h : e'.attnKey = e.attnKey) : AttnAt e' r ↔ AttnAt e r := by
  rw [AttnAt, AttnAt, attnOf_congr h]

/-- A change of Site that leaves the phase and the attention level alone. -/
theorem mapSite_attnOk {f : Site → Site} (hs : AttnOk s) (hf : (f s.site).attnKey = s.site.attnKey) :
    AttnOk (s.mapSite f) := by
  rw [attnOk_iff] at hs ⊢
  exact (attnAt_congr hf).mpr hs

theorem react_attnOk {f : Site → Road → Road} (hs : AttnOk s) (hf : ∀ e r, AttnAt e r → AttnAt e (f e r)) :
    AttnOk (s.react f) := by
  rw [attnOk_iff] at hs ⊢
  exact hf _ _ hs

/-- A report leaves ATTN evaluated, whatever it was before. -/
theorem report_attnOk {k : ReportKind} {m : Nat} {v : ReportValue} : AttnOk (s.report k m v) :=
  (attnOk_iff _).mpr report_attnAt

/-- A reaction that evaluates ATTN itself. -/
theorem react_attnOk_of_evaluates {f : Site → Road → Road} (hf : ∀ e r, AttnAt e (f e r)) : AttnOk (s.react f) :=
  (attnOk_iff _).mpr (hf _ _)

theorem reach_attnOk {x : Option Nat} (hs : AttnOk s) : AttnOk (s.reach x) := mapSite_attnOk hs rfl

theorem attnOk_ite {c : Prop} [Decidable c] {a b : State} (ha : AttnOk a) (hb : AttnOk b) :
    AttnOk (if c then a else b) := by split <;> assumption

theorem attnOk_when {c : Prop} [Decidable c] {f : State → State} (hf : ∀ {s}, AttnOk s → AttnOk (f s)) (hs : AttnOk s) :
    AttnOk (if c then f s else s) := attnOk_ite (hf hs) hs

theorem attnOk_foldl {α : Type} {f : State → α → State} {l : List α} (hf : ∀ s a, AttnOk s → AttnOk (f s a))
    (hs : AttnOk s) : AttnOk (l.foldl f s) :=
  List.foldlRecOn l f hs fun s hs a _ => hf s a hs

theorem attnKey_ite {c : Prop} [Decidable c] {a b : Site} {k : Phase × ReportClass} (ha : a.attnKey = k)
    (hb : b.attnKey = k) : (if c then a else b).attnKey = k := by split <;> assumption

theorem attnKey_foldl {α : Type} {f : Site → α → Site} {l : List α} {e : Site}
    (hf : ∀ e a, (f e a).attnKey = e.attnKey) : (l.foldl f e).attnKey = e.attnKey :=
  List.foldlRecOn (motive := fun x => x.attnKey = e.attnKey) l f rfl fun x hx a _ => (hf x a).trans hx

/-! ## Holds and claims -/

theorem raiseHold_attnOk {n : SegId} {h : Hold} (hs : AttnOk s) : AttnOk (s.raiseHold n h) := by
  refine attnOk_ite hs ((attnOk_iff _).mpr (holdJoined_attnAt (listener_keepsAttn _) ?_))
  exact (attnAt_congr (e := s.site) rfl).mpr ((attnOk_iff _).mp hs)

theorem dropHold_attnOk {n : SegId} {h : Hold} (hs : AttnOk s) : AttnOk (s.dropHold n h) := by
  refine attnOk_ite hs ((attnOk_iff _).mpr (holdLeft_attnAt (listener_keepsAttn _) ?_))
  exact (attnAt_congr (e := s.site) rfl).mpr ((attnOk_iff _).mp hs)

theorem raiseAll_attnOk {set : SegSet} {h : Hold} (hs : AttnOk s) : AttnOk (s.raiseAll set h) :=
  attnOk_foldl (fun _ _ hs => raiseHold_attnOk hs) hs

theorem dropAll_attnOk {set : SegSet} {h : Hold} (hs : AttnOk s) : AttnOk (s.dropAll set h) :=
  attnOk_foldl (fun _ _ hs => dropHold_attnOk hs) hs

theorem State.postAll_attnOk {set : SignSet} {c : Claim} (hs : AttnOk s) : AttnOk (s.postAll set c) :=
  react_attnOk hs fun e _ hr => postAll_attnAt (listener_keepsAttn e) hr

theorem State.withdrawAll_attnOk {set : SignSet} {src : Source} (hs : AttnOk s) : AttnOk (s.withdrawAll set src) :=
  react_attnOk hs fun e _ hr => withdrawAll_attnAt (listener_keepsAttn e) hr

/-! ## Schedule -/

theorem recomputeEntry_attnOk {n : EntryId} {c : ScheduleCfg} (hs : AttnOk s) : AttnOk (s.recomputeEntry n c) :=
  attnOk_ite (State.withdrawAll_attnOk (dropAll_attnOk (State.postAll_attnOk (raiseAll_attnOk (mapSite_attnOk hs rfl)))))
    report_attnOk

theorem recomputeAll_attnOk (hs : AttnOk s) : AttnOk s.recomputeAll :=
  attnOk_foldl (fun _ _ hs => recomputeEntry_attnOk hs) hs

/-! ## Paths -/

variable {p : PathId} {c : ChanId}

theorem followPath_attnOk {old : Wants} (hs : AttnOk s) : AttnOk (s.followPath p old) := by
  unfold State.followPath
  extract_lets c new s1 s2 s3 s4 s5
  have h1 : AttnOk s1 := attnOk_when raiseHold_attnOk hs
  have h2 : AttnOk s2 := attnOk_when raiseHold_attnOk h1
  have h3 : AttnOk s3 := attnOk_when dropHold_attnOk h2
  have h4 : AttnOk s4 := attnOk_when dropHold_attnOk h3
  have h5 : AttnOk s5 := by
    refine attnOk_ite h4 ?_
    split
    exacts [State.postAll_attnOk h4, State.withdrawAll_attnOk h4]
  exact mapSite_attnOk h5 rfl

theorem movePath_attnOk {f : Path → Path} {k : ReportKind} {v : ReportValue} : AttnOk (s.movePath p f k v) :=
  followPath_attnOk report_attnOk

theorem recover_attnOk {x : Option DetNo} (hs : AttnOk s) : AttnOk (s.recover p x) :=
  attnOk_ite hs (attnOk_ite hs (attnOk_ite movePath_attnOk report_attnOk))

theorem fire_attnOk {d : DetNo} (hs : AttnOk s) : AttnOk (s.fire p d) := by
  unfold State.fire
  dsimp only
  split
  exacts [attnOk_ite movePath_attnOk movePath_attnOk, movePath_attnOk, mapSite_attnOk hs rfl]

theorem triplineEvent_attnOk {d : DetNo} {b f : Bool} (hs : AttnOk s) : AttnOk (s.triplineEvent p d b f) := by
  unfold State.triplineEvent
  dsimp only
  split
  exacts [fire_attnOk hs, recover_attnOk report_attnOk, recover_attnOk report_attnOk, hs]

theorem eachDetector_attnOk {k : DetKind} {f : PathId → DetNo → State → State}
    (hf : ∀ p d s, AttnOk s → AttnOk (f p d s)) (hs : AttnOk s) : AttnOk (s.eachDetector k c f) :=
  attnOk_foldl (fun _ p hs => attnOk_ite (attnOk_foldl (fun s d hs => hf p d s hs) hs) hs) hs

theorem continuityChanged_attnOk {b : Bool} (hs : AttnOk s) : AttnOk (s.continuityChanged c b) :=
  eachDetector_attnOk (fun _ _ _ hs => triplineEvent_attnOk hs) (mapSite_attnOk hs rfl)

theorem lowReached_attnOk (hs : AttnOk s) : AttnOk (s.lowReached c) := attnOk_ite (continuityChanged_attnOk hs) hs

theorem highReached_attnOk (hs : AttnOk s) : AttnOk (s.highReached c) := attnOk_ite (continuityChanged_attnOk hs) hs

theorem seismicEvent_attnOk {d : DetNo} (hs : AttnOk s) : AttnOk (s.seismicEvent p d) := by
  have hbins : AttnOk (s.mapSite fun e => e.setPath p ((e.path p).setDet d
      { (e.path p).det d with bins := min 60 (((e.path p).det d).bins + 1) })) := mapSite_attnOk hs rfl
  unfold State.seismicEvent
  dsimp only
  split
  exacts [attnOk_ite (fire_attnOk hbins) hbins, hbins]

theorem binClosed_attnOk (hs : AttnOk s) : AttnOk (s.binClosed c) :=
  attnOk_ite (eachDetector_attnOk (fun _ _ _ hs => seismicEvent_attnOk hs) (mapSite_attnOk hs rfl)) hs

theorem endEpisode_attnOk {d : DetNo} (hs : AttnOk s) : AttnOk (s.endEpisode p d) := by
  unfold State.endEpisode
  split
  · exact hs
  · refine attnOk_ite ?_ hs
    split
    exacts [mapSite_attnOk hs rfl, attnOk_ite report_attnOk (mapSite_attnOk hs rfl)]

theorem confirmExpired_attnOk (hs : AttnOk s) : AttnOk (s.confirmExpired p) :=
  attnOk_ite (followPath_attnOk report_attnOk) hs

theorem clearPath_attnOk (hs : AttnOk s) : AttnOk (s.clearPath p) := by
  unfold State.clearPath
  extract_lets x c old f1 f2 s1 s2 zero s3 cause s4
  have hzero (d : DetNo) (u : State) (hu : AttnOk u) : AttnOk (zero d u) := by
    unfold zero
    split
    exacts [attnOk_ite (mapSite_attnOk hu rfl) hu, hu]
  have h2 : AttnOk s2 := endEpisode_attnOk (endEpisode_attnOk (mapSite_attnOk hs rfl))
  have h3 : AttnOk s3 := followPath_attnOk (hzero .second _ (hzero .first s2 h2))
  have h4 : AttnOk s4 := recover_attnOk h3
  exact attnOk_ite h4 report_attnOk

theorem declare_attnOk {b : Bool} (hs : AttnOk s) : AttnOk (s.declare p b) := attnOk_ite hs movePath_attnOk

/-! ## Measurement, triggers, supply -/

theorem sensorReport_attnOk {i : InputId} {x : Option (ReportKind × Int)} (hs : AttnOk s) :
    AttnOk (s.sensorReport i x) := by
  unfold State.sensorReport
  split
  exacts [report_attnOk, hs]

theorem sampleSensor_attnOk {w : StationId} {k : Sensor} (hs : AttnOk s) : AttnOk (s.sampleSensor w k) := by
  unfold State.sampleSensor
  dsimp only
  split
  exacts [hs, sensorReport_attnOk (mapSite_attnOk hs rfl)]

theorem sampleWind_attnKey (w : StationId) (e : Site) : (e.sampleWind w).attnKey = e.attnKey := by
  unfold Site.sampleWind
  split
  · rfl
  · dsimp only
    split <;> rfl

theorem publish_attnKey (e : Site) : e.publish.attnKey = e.attnKey := by
  simp only [Site.attnKey, Site.publish]

theorem sampleSupply_attnOk (hs : AttnOk s) : AttnOk s.sampleSupply := by
  unfold State.sampleSupply
  exact sensorReport_attnOk (mapSite_attnOk hs rfl)

theorem measureAll_attnOk (hs : AttnOk s) : AttnOk s.measureAll := by
  unfold State.measureAll
  refine mapSite_attnOk (sampleSupply_attnOk (attnOk_foldl (fun _ _ hs => ?_) hs)) ?_
  · exact sampleSensor_attnOk (sampleSensor_attnOk (sampleSensor_attnOk hs))
  · exact (publish_attnKey _).trans (attnKey_foldl fun e w => sampleWind_attnKey w e)

variable {k : TrigId}

theorem trigReverts_attnOk {c : TriggerCfg} {x : ClearCause} : AttnOk (s.trigReverts k c x) := report_attnOk

theorem evalTrigger_attnOk (hs : AttnOk s) : AttnOk (s.evalTrigger k) := by
  refine attnOk_ite hs ?_
  split
  exacts [report_attnOk, trigReverts_attnOk, mapSite_attnOk hs rfl]

theorem evalTriggers_attnOk {b : Quant → Bool} (hs : AttnOk s) : AttnOk (s.evalTriggers b) :=
  attnOk_foldl (fun _ _ hs => attnOk_when evalTrigger_attnOk hs) hs

theorem restartTrigger_attnOk {c : TriggerCfg} (hs : AttnOk s) : AttnOk (s.restartTrigger k c) :=
  mapSite_attnOk (attnOk_ite trigReverts_attnOk hs) rfl

theorem latchBeacon_attnKey (p : PathId) (e : Site) : (e.latchBeacon p).attnKey = e.attnKey := rfl

theorem stageChanged_attnOk {old : Stage} : AttnOk (s.stageChanged old) := by
  unfold State.stageChanged
  extract_lets s1 s2
  have h1 : AttnOk s1 := report_attnOk
  have h2 : AttnOk s2 := react_attnOk h1 fun e _ hr => linkTakesStage_attnAt
    (signsTakeStage_attnAt (listener_keepsAttn e) (gatesTakeStage_attnAt (listener_keepsAttn e) hr))
  exact mapSite_attnOk h2 (attnKey_foldl fun e p => latchBeacon_attnKey p e)

theorem Site.supplyEval_attnKey (e : Site) : e.supplyEval.attnKey = e.attnKey := by
  unfold Site.supplyEval
  dsimp only
  split
  · rfl
  · split
    · split
      · rfl
      · simp only [Site.attnKey]
    · simp only [Site.attnKey]

theorem supplyEval_attnOk (hs : AttnOk s) : AttnOk s.supplyEval :=
  attnOk_ite (mapSite_attnOk hs (Site.supplyEval_attnKey _)) stageChanged_attnOk

theorem sample_attnOk (hs : AttnOk s) : AttnOk s.sample := by
  unfold State.sample
  refine supplyEval_attnOk (evalTriggers_attnOk (mapSite_attnOk (measureAll_attnOk hs) ?_))
  simp only [Site.attnKey]

theorem second_attnOk (hs : AttnOk s) : AttnOk s.second :=
  attnOk_when recomputeAll_attnOk (mapSite_attnOk hs rfl)

theorem rerender_attnOk (hs : AttnOk s) : AttnOk s.rerender :=
  react_attnOk (mapSite_attnOk hs rfl) fun e _ hr => renderAll_attnAt (listener_keepsAttn e) hr

/-! ## Configuration writes -/

theorem putSegment_attnOk {n : SegId} {c : SegmentCfg} (hs : AttnOk s) : AttnOk (s.putSegment n c) :=
  have h1 := mapSite_attnOk (f := Site.configure fun x => { x with segments := x.segments.set n c }) hs rfl
  attnOk_ite (attnOk_foldl (fun _ _ hs => raiseHold_attnOk hs) h1) h1

theorem putGate_attnOk {g : GateId} {c : GateCfg} (hs : AttnOk s) : AttnOk (s.putGate g c) :=
  react_attnOk (mapSite_attnOk hs rfl) fun e _ hr => gateWritten_attnAt (listener_keepsAttn e) hr

theorem putSign_attnOk {h : SignId} {c : SignCfg} (hs : AttnOk s) : AttnOk (s.putSign h c) :=
  react_attnOk (mapSite_attnOk hs rfl) fun e _ hr => signWritten_attnAt (listener_keepsAttn e) hr

theorem restartSelecting_attnKey (b : TbId) (e : Site) : (e.restartSelecting b).attnKey = e.attnKey :=
  attnKey_foldl fun _ _ => by split <;> rfl

theorem slotEvent_attnKey (e : Site) : e.slotEvent.attnKey = e.attnKey := attnKey_foldl fun _ _ => rfl

theorem flashMode_attnKey (o m : TbMode) (e : Site) : (e.flashMode o m).attnKey = e.attnKey := by
  unfold Site.flashMode
  split
  exacts [attnKey_foldl fun _ _ => rfl, slotEvent_attnKey _, rfl]

theorem putTimebase_attnKey (b : TbId) (c : TimebaseCfg) (e : Site) : (e.putTimebase b c).attnKey = e.attnKey := by
  unfold Site.putTimebase
  dsimp only
  have hselecting (f : WorkingConfig → WorkingConfig) (hf : (f e.cfg).attention = e.cfg.attention) :
      (((e.configure f).zeroTb b).restartSelecting b).attnKey = e.attnKey :=
    (restartSelecting_attnKey ..).trans (congrArg (Prod.mk e.phase) hf)
  split
  · rfl
  · split
    · exact (flashMode_attnKey ..).trans (hselecting _ rfl)
    · exact hselecting _ rfl

theorem wrap_attnKey (b : TbId) (e : Site) : (e.wrap b).attnKey = e.attnKey := by
  refine attnKey_ite rfl (attnKey_foldl fun u c => attnKey_ite ?_ rfl)
  dsimp only
  split <;> rfl

theorem advanceSlot_attnKey (e : Site) : e.advanceSlot.attnKey = e.attnKey := attnKey_ite (slotEvent_attnKey _) rfl

theorem edge_attnKey (c : ChanId) (b : Bool) (e : Site) : (e.edge c b).attnKey = e.attnKey := by
  refine attnKey_ite rfl ?_
  dsimp only
  split <;> rfl

theorem zeroBins_attnKey (d : DetNo) (e : Site) : (e.zeroBins p d).attnKey = e.attnKey := by
  unfold Site.zeroBins
  split
  · split <;> rfl
  · rfl

theorem putChannel_attnOk {x : ChannelCfg} (hs : AttnOk s) : AttnOk (s.putChannel c x) := by
  refine attnOk_foldl (fun u p hu => ?_) (mapSite_attnOk hs rfl)
  split
  · exact attnOk_ite (recover_attnOk (mapSite_attnOk hu (zeroBins_attnKey ..))) hu
  · exact hu

theorem putStation_attnOk {w : StationId} {c : StationCfg} (hs : AttnOk s) : AttnOk (s.putStation w c) :=
  evalTriggers_attnOk (mapSite_attnOk hs rfl)

theorem putSupply_attnOk {c : SupplyCfg} (hs : AttnOk s) : AttnOk (s.putSupply c) := by
  unfold State.putSupply
  extract_lets old s1 s2
  have h1 : AttnOk s1 := mapSite_attnOk hs rfl
  have h2 : AttnOk s2 := attnOk_ite (mapSite_attnOk h1 rfl) h1
  exact attnOk_ite h2 (evalTriggers_attnOk (mapSite_attnOk h2 rfl))

theorem setUpDetector_attnOk {d : DetNo} (hs : AttnOk s) : AttnOk (s.setUpDetector p d) := by
  unfold State.setUpDetector
  split
  exacts [mapSite_attnOk hs rfl, attnOk_ite report_attnOk (mapSite_attnOk hs rfl)]

theorem newDebounces_attnOk {e : Site} (hs : AttnOk s) : AttnOk (s.newDebounces e) :=
  attnOk_foldl (fun _ _ hs => attnOk_ite hs (attnOk_when lowReached_attnOk hs)) hs

theorem putPath_attnOk {c : PathCfg} (hs : AttnOk s) : AttnOk (s.putPath p c) := by
  unfold State.putPath
  extract_lets was s1 s2
  have h1 : AttnOk s1 := mapSite_attnOk hs rfl
  have h2 : AttnOk s2 := recover_attnOk (setUpDetector_attnOk (setUpDetector_attnOk h1))
  exact newDebounces_attnOk (mapSite_attnOk h2 (latchBeacon_attnKey p _))

theorem putSchedule_attnOk {n : EntryId} {c : ScheduleCfg} (hs : AttnOk s) : AttnOk (s.putSchedule n c) :=
  recomputeEntry_attnOk (mapSite_attnOk hs rfl)

theorem putZone_attnOk {z : Int} (hs : AttnOk s) : AttnOk (s.putZone z) :=
  attnOk_ite hs (recomputeAll_attnOk (mapSite_attnOk hs rfl))

/-- The write of the attention level evaluates ATTN (R184). -/
theorem putAttention_attnOk {l : ReportClass} : AttnOk (s.putAttention l) := (attnOk_iff _).mpr rfl

/-! ## Store, notices, resets -/

theorem endTemplate_attnOk {b : Bool} (hs : AttnOk s) : AttnOk (s.endTemplate b) := by
  unfold State.endTemplate
  split
  · exact react_attnOk (mapSite_attnOk hs rfl) fun e _ _ => renderSlot_attnAt (listener_keepsAttn e) report_attnAt
  · exact hs

theorem endSave_attnOk {b : Bool} (hs : AttnOk s) : AttnOk (s.endSave b) := by
  unfold State.endSave
  split
  exacts [report_attnOk, hs]

/-- Held in reset, ATTN is deasserted (R177). -/
theorem hold_attnOk : AttnOk s.hold := (attnOk_iff _).mpr rfl

/-- A report queued outside RUNNING does not assert ATTN (R178, R187). -/
theorem report_attn_stopped {k : ReportKind} {m : Nat} {v : ReportValue} (hphase : s.site.phase ≠ .running) :
    (s.report k m v).road.attn = false :=
  Bool.eq_false_iff.mpr fun h => hphase (report_attnOk.mp h).1

/-- Reading the image does not assert ATTN, whatever attention level it brings, since the part is not RUNNING. -/
theorem readImage_attnOk (hphase : s.site.phase ≠ .running) (hattn : s.road.attn = false) : AttnOk s.readImage := by
  refine attnOk_ite ⟨fun h => ?_, fun h => absurd h.1 hphase⟩ report_attnOk
  exact absurd (hattn.symm.trans h) Bool.false_ne_true

/-- A start of LOADING leaves ATTN deasserted, whatever configuration it reads (R178). -/
theorem startLoading_attnOk {k : StartCause} : AttnOk (s.startLoading k) := by
  unfold State.startLoading
  extract_lets s1
  have hphase : s1.site.phase ≠ .running := nofun
  exact readImage_attnOk hphase (report_attn_stopped hphase)

theorem signsStart_attnAt (e : Site) (r : Road) : AttnAt e (signsStart e r) := linkArbitrate_attnAt rfl

/-- The end of LOADING evaluates ATTN after every block has started (R187). -/
theorem endLoading_attnOk : AttnOk s.endLoading := by
  unfold State.endLoading
  exact react_attnOk_of_evaluates signsStart_attnAt

theorem powerOn_attnOk {a b : Bool} : AttnOk (s.powerOn a b) := attnOk_ite hold_attnOk startLoading_attnOk

theorem lineHigh_attnOk {a b : Bool} (hs : AttnOk s) : AttnOk (s.lineHigh a b) :=
  attnOk_ite startLoading_attnOk (mapSite_attnOk hs rfl)

theorem postNotice_attnOk {n : NoticeId} {x : Notice} (hs : AttnOk s) : AttnOk (s.postNotice n x) :=
  mapSite_attnOk (State.withdrawAll_attnOk (State.postAll_attnOk hs)) rfl

theorem answered_attnOk {a : Answer} (hs : AttnOk s) : AttnOk (s.answered a) :=
  react_attnOk hs fun e _ hr => takeAnswer_attnAt (listener_keepsAttn e) hr

/-! ## Requests -/

/-- A verdict that carries a request out leaves a state with a property; a refusal leaves none. -/
def Verdict.Leaves (P : State → Prop) : Verdict → Prop
  | .refuse _ _ => True
  | .done t _ _ => P t

section
variable {P : State → Prop} {α : Type}

theorem withIndex_leaves {o : Option α} {f : α → Verdict} (hf : ∀ a, (f a).Leaves P) : (withIndex o f).Leaves P := by
  cases o with
  | none => trivial
  | some a => exact hf a

theorem withValue_leaves {o : Option α} {f : α → Verdict} (hf : ∀ a, (f a).Leaves P) : (withValue o f).Leaves P := by
  cases o with
  | none => trivial
  | some a => exact hf a

theorem require_leaves {b : Bool} {c : ResultCode} {v : Verdict} (hv : v.Leaves P) : (require b c v).Leaves P := by
  cases b
  exacts [trivial, hv]

theorem storeFree_leaves {v : Verdict} (hv : v.Leaves P) : (storeFree s v).Leaves P := require_leaves hv

end

/-- A frame keeps ATTN in line if carrying its request out does: the port itself touches neither queue nor ATTN. -/
theorem takeRequest_attnOk {α : Type} {k g : Byte} {early : Bool} {b : Body α} {act : α → State → Verdict}
    (hs : AttnOk s) (hact : ∀ a u, AttnOk u → (act a u).Leaves AttnOk) : AttnOk (s.takeRequest k g early b act) := by
  have hframe : AttnOk s.frameEnded := mapSite_attnOk hs rfl
  refine attnOk_ite hs (attnOk_ite hframe (attnOk_ite (mapSite_attnOk hframe rfl) ?_))
  have hjudge : (judge early b act s.frameEnded).Leaves AttnOk := by
    unfold judge
    split
    · trivial
    · cases b with
      | misfit => trivial
      | fits a => exact hact a _ hframe
  cases hv : judge early b act s.frameEnded with
  | refuse c body => exact mapSite_attnOk hframe rfl
  | done t body r => exact mapSite_attnOk (hv ▸ hjudge : (Verdict.done t body r).Leaves AttnOk) rfl

/-! ## Commands -/

theorem actGetTemplate_leaves (m : Nat) (hs : AttnOk s) : (actGetTemplate m s).Leaves AttnOk := by
  refine withIndex_leaves fun x => ?_
  split
  exacts [hs, react_attnOk hs fun _ _ hr => testSlot_attnAt hr]

theorem actGetClock_leaves (hs : AttnOk s) : (actGetClock () s).Leaves AttnOk := by
  unfold actGetClock
  split
  exacts [hs, trivial]

theorem replySent_attnOk (hs : AttnOk s) : ∃ t, exec .replySent s = .next t ∧ AttnOk t := by
  refine ⟨_, rfl, ?_⟩
  split
  exacts [hs, attnOk_ite startLoading_attnOk (mapSite_attnOk hs rfl)]

/-- Every command keeps ATTN in line with the report queue. -/
theorem exec_attnOk (hs : AttnOk s) : ∀ c : Instr, ∃ t, exec c s = .next t ∧ AttnOk t
  -- requests
  | .getIdentity _ _ => ⟨_, rfl, takeRequest_attnOk hs fun _ _ hu => hu⟩
  | .setClock _ _ => ⟨_, rfl, takeRequest_attnOk hs fun _ _ _ => recomputeAll_attnOk report_attnOk⟩
  | .getClock _ _ => ⟨_, rfl, takeRequest_attnOk hs fun _ _ hu => actGetClock_leaves hu⟩
  | .putSegment _ _ => ⟨_, rfl, takeRequest_attnOk hs fun _ _ hu => withIndex_leaves fun _ => storeFree_leaves <|
      withValue_leaves fun _ => require_leaves <| require_leaves <| putSegment_attnOk hu⟩
  | .putGate _ _ => ⟨_, rfl, takeRequest_attnOk hs fun _ _ hu => withIndex_leaves fun _ => storeFree_leaves <|
      withValue_leaves fun _ => require_leaves <| putGate_attnOk hu⟩
  | .putSign _ _ => ⟨_, rfl, takeRequest_attnOk hs fun _ _ hu => withIndex_leaves fun _ => storeFree_leaves <|
      withValue_leaves fun _ => putSign_attnOk hu⟩
  | .putTimebase _ _ => ⟨_, rfl, takeRequest_attnOk hs fun _ _ hu => withIndex_leaves fun _ => storeFree_leaves <|
      withValue_leaves fun _ => require_leaves <| mapSite_attnOk hu (putTimebase_attnKey ..)⟩
  | .putChannel _ _ => ⟨_, rfl, takeRequest_attnOk hs fun _ _ hu => withIndex_leaves fun _ => storeFree_leaves <|
      withValue_leaves fun _ => require_leaves <| require_leaves <| putChannel_attnOk hu⟩
  | .putStation _ _ => ⟨_, rfl, takeRequest_attnOk hs fun _ _ hu => withIndex_leaves fun _ => storeFree_leaves <|
      withValue_leaves fun _ => require_leaves <| putStation_attnOk hu⟩
  | .putTrigger _ _ => ⟨_, rfl, takeRequest_attnOk hs fun _ _ hu => withIndex_leaves fun _ => storeFree_leaves <|
      withValue_leaves fun _ => restartTrigger_attnOk hu⟩
  | .putPath _ _ => ⟨_, rfl, takeRequest_attnOk hs fun _ _ hu => withIndex_leaves fun _ => storeFree_leaves <|
      withValue_leaves fun _ => require_leaves <| require_leaves <| putPath_attnOk hu⟩
  | .putSchedule _ _ => ⟨_, rfl, takeRequest_attnOk hs fun _ _ hu => withIndex_leaves fun _ => storeFree_leaves <|
      withValue_leaves fun _ => putSchedule_attnOk hu⟩
  | .putSupply _ _ => ⟨_, rfl, takeRequest_attnOk hs fun _ _ hu => storeFree_leaves <| withValue_leaves fun _ =>
      putSupply_attnOk hu⟩
  | .setZone _ _ => ⟨_, rfl, takeRequest_attnOk hs fun _ _ hu => storeFree_leaves <| putZone_attnOk hu⟩
  | .setAttention _ _ => ⟨_, rfl, takeRequest_attnOk hs fun _ _ _ => storeFree_leaves <| withValue_leaves fun _ =>
      putAttention_attnOk⟩
  | .getRecord _ _ => ⟨_, rfl, takeRequest_attnOk hs fun _ _ hu => withValue_leaves fun _ => withIndex_leaves fun _ => hu⟩
  | .saveConfig _ _ => ⟨_, rfl, takeRequest_attnOk hs fun _ _ hu => storeFree_leaves <| mapSite_attnOk hu rfl⟩
  | .putTemplate _ _ => ⟨_, rfl, takeRequest_attnOk hs fun _ _ hu => withIndex_leaves fun _ => storeFree_leaves <|
      withValue_leaves fun _ => react_attnOk (mapSite_attnOk hu rfl) fun _ _ hr => hr⟩
  | .getTemplate _ _ => ⟨_, rfl, takeRequest_attnOk hs fun m _ hu => actGetTemplate_leaves m hu⟩
  | .closeSegment _ _ => ⟨_, rfl, takeRequest_attnOk hs fun _ _ hu => withIndex_leaves fun _ => require_leaves <|
      raiseHold_attnOk hu⟩
  | .releaseSegment _ _ => ⟨_, rfl, takeRequest_attnOk hs fun _ _ hu => withIndex_leaves fun _ => require_leaves <|
      dropHold_attnOk (dropHold_attnOk hu)⟩
  | .reopenSegment _ _ => ⟨_, rfl, takeRequest_attnOk hs fun _ _ hu => withIndex_leaves fun _ => require_leaves <|
      require_leaves <| require_leaves <| react_attnOk hu fun e _ _ => enterReopening_attnAt (listener_keepsAttn e)⟩
  | .servicePass _ _ => ⟨_, rfl, takeRequest_attnOk hs fun _ _ hu => withIndex_leaves fun _ => require_leaves <|
      require_leaves <| require_leaves <| require_leaves <|
      react_attnOk hu fun e _ hr => grantPass_attnAt (listener_keepsAttn e) hr⟩
  | .resetGateFault _ _ => ⟨_, rfl, takeRequest_attnOk hs fun _ _ hu => withIndex_leaves fun _ => require_leaves <|
      require_leaves <| react_attnOk hu fun e _ hr => clearFault_attnAt (listener_keepsAttn e) hr⟩
  | .declareHazard _ _ => ⟨_, rfl, takeRequest_attnOk hs fun _ _ hu => withIndex_leaves fun _ => withValue_leaves fun _ =>
      require_leaves <| declare_attnOk hu⟩
  | .clearPath _ _ => ⟨_, rfl, takeRequest_attnOk hs fun _ _ hu => withIndex_leaves fun _ => require_leaves <|
      clearPath_attnOk hu⟩
  | .postNotice _ _ => ⟨_, rfl, takeRequest_attnOk hs fun _ _ hu => withIndex_leaves fun _ => withValue_leaves fun _ =>
      postNotice_attnOk hu⟩
  | .withdrawNotice _ _ => ⟨_, rfl, takeRequest_attnOk hs fun _ _ hu => withIndex_leaves fun _ =>
      mapSite_attnOk (State.withdrawAll_attnOk hu) rfl⟩
  | .restart _ _ => ⟨_, rfl, takeRequest_attnOk hs fun _ _ hu => hu⟩
  | .getSegment _ _ => ⟨_, rfl, takeRequest_attnOk hs fun _ _ hu => withIndex_leaves fun _ => hu⟩
  | .getGate _ _ => ⟨_, rfl, takeRequest_attnOk hs fun _ _ hu => withIndex_leaves fun _ => hu⟩
  | .getSign _ _ => ⟨_, rfl, takeRequest_attnOk hs fun _ _ hu => withIndex_leaves fun _ => hu⟩
  | .getPath _ _ => ⟨_, rfl, takeRequest_attnOk hs fun _ _ hu => withIndex_leaves fun _ => hu⟩
  | .getTrigger _ _ => ⟨_, rfl, takeRequest_attnOk hs fun _ _ hu => withIndex_leaves fun _ => hu⟩
  | .getQuantities _ _ => ⟨_, rfl, takeRequest_attnOk hs fun _ _ hu => hu⟩
  | .getSchedule _ _ => ⟨_, rfl, takeRequest_attnOk hs fun _ _ hu => withIndex_leaves fun _ => hu⟩
  | .getSupply _ _ => ⟨_, rfl, takeRequest_attnOk hs fun _ _ hu => hu⟩
  | .fetchReports _ _ => ⟨_, rfl, takeRequest_attnOk hs fun _ _ _ => react_attnOk_of_evaluates fun _ _ => rfl⟩
  | .unknownKind _ _ => ⟨_, rfl, takeRequest_attnOk hs fun _ _ _ => trivial⟩
  -- the cabinet line, resets and the store
  | .cabinetFrameDiscarded _ => ⟨_, rfl, attnOk_ite hs (mapSite_attnOk hs rfl)⟩
  | .interByteGapTimeout _ => ⟨_, rfl, attnOk_ite hs (mapSite_attnOk hs rfl)⟩
  | .huntByteDiscarded _ => ⟨_, rfl, hs⟩
  | .replySent => replySent_attnOk hs
  | .powerOn _ _ => ⟨_, rfl, powerOn_attnOk⟩
  | .brownOut => ⟨_, rfl, hold_attnOk⟩
  | .resetLineLow => ⟨_, rfl, hold_attnOk⟩
  | .resetLineHigh _ _ => ⟨_, rfl, attnOk_ite (lineHigh_attnOk hs) hs⟩
  | .loadingEnd => ⟨_, rfl, attnOk_ite endLoading_attnOk hs⟩
  | .templateWriteComplete _ => ⟨_, rfl, endTemplate_attnOk hs⟩
  | .configSaveComplete _ => ⟨_, rfl, endSave_attnOk hs⟩
  -- gates and segments
  | .limitSwitchChange _ _ _ => ⟨_, rfl, react_attnOk hs fun e _ hr => limitChange_attnAt (listener_keepsAttn e) hr⟩
  | .presenceChange _ _ => ⟨_, rfl, react_attnOk hs fun e _ hr => presenceChanged_attnAt (listener_keepsAttn e) hr⟩
  | .driverTrip _ _ => ⟨_, rfl, react_attnOk hs fun e _ hr => tripInput_attnAt (listener_keepsAttn e) hr⟩
  | .travelTimeout _ =>
    ⟨_, rfl, react_attnOk (reach_attnOk hs) fun e _ hr => travelExpired_attnAt (listener_keepsAttn e) hr⟩
  | .pauseExpiry _ => ⟨_, rfl, react_attnOk (reach_attnOk hs) fun e _ hr => pauseExpired_attnAt (listener_keepsAttn e) hr⟩
  | .holdOffExpiry _ =>
    ⟨_, rfl, react_attnOk (reach_attnOk hs) fun e _ hr => holdOffExpired_attnAt (listener_keepsAttn e) hr⟩
  | .retryDelayExpiry _ =>
    ⟨_, rfl, react_attnOk (reach_attnOk hs) fun e _ hr => retryExpired_attnAt (listener_keepsAttn e) hr⟩
  | .displacementExpiry _ =>
    ⟨_, rfl, react_attnOk (reach_attnOk hs) fun e _ hr => displaceExpired_attnAt (listener_keepsAttn e) hr⟩
  | .rampStep _ => ⟨_, rfl, react_attnOk (reach_attnOk hs) fun _ _ hr => hr⟩
  | .noticeTimerExpiry _ =>
    ⟨_, rfl, react_attnOk (reach_attnOk hs) fun e _ hr => noticeExpired_attnAt (listener_keepsAttn e) hr⟩
  | .sweepTimerExpiry _ =>
    ⟨_, rfl, react_attnOk (reach_attnOk hs) fun e _ hr => sweepExpired_attnAt (listener_keepsAttn e) hr⟩
  | .passTimerExpiry _ =>
    ⟨_, rfl, react_attnOk (reach_attnOk hs) fun e _ hr => passExpired_attnAt (listener_keepsAttn e) hr⟩
  -- capture, paths, measurement and clock
  | .timebaseWrap b => ⟨_, rfl, mapSite_attnOk (reach_attnOk hs) (attnKey_ite (wrap_attnKey b _) rfl)⟩
  | .flashSlotAdvance => ⟨_, rfl, mapSite_attnOk (reach_attnOk hs) (advanceSlot_attnKey _)⟩
  | .captureEdge c b => ⟨_, rfl, mapSite_attnOk hs (edge_attnKey c b _)⟩
  | .lowWidthDebounceReached _ => ⟨_, rfl, lowReached_attnOk hs⟩
  | .highTimeReached _ => ⟨_, rfl, highReached_attnOk hs⟩
  | .binClose _ => ⟨_, rfl, binClosed_attnOk (reach_attnOk hs)⟩
  | .confirmTimerExpiry _ => ⟨_, rfl, confirmExpired_attnOk (reach_attnOk hs)⟩
  | .sampleCompletion => ⟨_, rfl, attnOk_ite (sample_attnOk (reach_attnOk hs)) hs⟩
  | .secondEvent => ⟨_, rfl, attnOk_ite (second_attnOk (reach_attnOk hs)) hs⟩
  | .rerenderCheck => ⟨_, rfl, attnOk_ite (rerender_attnOk (reach_attnOk hs)) hs⟩
  | .analogConversionComplete _ _ => ⟨_, rfl, mapSite_attnOk hs (attnKey_ite rfl rfl)⟩
  -- the sign link
  | .pollDue _ => ⟨_, rfl, react_attnOk (reach_attnOk hs) fun _ _ hr => linkArbitrate_attnAt (fallDue_attnAt hr)⟩
  | .statusReceived _ => ⟨_, rfl, answered_attnOk hs⟩
  | .ackReceived => ⟨_, rfl, answered_attnOk hs⟩
  | .nakReceived => ⟨_, rfl, answered_attnOk hs⟩
  | .stallReceived => ⟨_, rfl, answered_attnOk hs⟩
  | .badAnswerReceived _ => ⟨_, rfl, answered_attnOk hs⟩
  | .answerWindowExpiry _ => ⟨_, rfl, answered_attnOk (reach_attnOk hs)⟩
  | .nakWaitExpiry => ⟨_, rfl, react_attnOk (reach_attnOk hs) fun _ _ hr => nakWaitEnded_attnAt hr⟩
  | .linkByteOutsideWindow _ => ⟨_, rfl, hs⟩

/-- Settles O57: each command keeps ATTN in line, and so does the passing of time on an empty queue. -/
theorem stepKeepsAttn : Obligations.StepKeepsAttn := by
  intro s t hs hstep
  unfold step at hstep
  split at hstep
  · obtain rfl := Host.Outcome.next.inj hstep
    exact hs
  · rename_i c rest _
    obtain ⟨u, hu, hok⟩ := exec_attnOk (s := { s with pending := rest }) hs c
    obtain rfl := Host.Outcome.next.inj (hu.symm.trans hstep)
    exact hok

end Sys2Proof.Machine
end

section
/-! Proof of how a report arrives at the queue and of what a reset does to it (R177, R178, R185). -/

namespace Sys2Proof.Machine

variable {s : State}

/-! ## The lowest class of a queue -/

theorem foldl_rank_le (l : List Report) (m : Nat) : l.foldl (fun m x => min m x.rank) m ≤ m ∧
    ∀ y ∈ l, l.foldl (fun m x => min m x.rank) m ≤ y.rank := by
  induction l generalizing m with
  | nil => simp
  | cons a l ih =>
    obtain ⟨hm, hl⟩ := ih (min m a.rank)
    simp only [List.foldl_cons, List.forall_mem_cons]
    exact ⟨by omega, by omega, hl⟩

/-- No report of a queue is of a class below its lowest one. -/
theorem lowestRank_le {y : Report} {l : List Report} (hy : y ∈ l) : lowestRank l ≤ y.rank := (foldl_rank_le l 3).2 y hy

/-- The lowest class is that of a report below which there is none. -/
theorem lowestRank_eq {y : Report} {l : List Report} (hy : y ∈ l) (hmin : ∀ z ∈ l, y.rank ≤ z.rank) :
    lowestRank l = y.rank := by
  refine (lowestRank_le hy).antisymm (Nat.le_of_not_lt fun hlt => ?_)
  obtain ⟨z, hz, hrank⟩ := lowestRank_mem hlt (ReportClass.rank_le _)
  have := hmin z hz
  omega

/-! ## Arrivals (R185) -/

theorem Road.arrive_of_room {e : Site} {x : Report} {r : Road} (h : r.reports.length < 48) :
    (r.arrive e x).reports = r.reports ++ [x] ∧ (r.arrive e x).lost = r.lost := by
  rw [Road.arrive_eq]
  have hroom : ¬ reportCapacity ≤ r.reports.length := Nat.not_le.mpr h
  exact ⟨if_pos h, by simp [hroom]⟩

/-- A full queue that holds no class below the arriving one drops the report that arrives. -/
theorem arrived_of_lowest {x : Report} {l : List Report} (hfull : 48 ≤ l.length) (hmin : ∀ y ∈ l, x.rank ≤ y.rank) :
    arrived x l = l := by
  have hlow : ¬ lowestRank l < x.rank := fun h => by
    obtain ⟨y, hy, hrank⟩ := lowestRank_mem h (ReportClass.rank_le _)
    have := hmin y hy
    omega
  exact (if_neg (Nat.not_lt.mpr hfull)).trans (if_neg hlow)

/-- A full queue drops the oldest report of its lowest class for a report of a higher one. -/
theorem arrived_displaces {x y : Report} {a b : List Report} (hfull : 48 ≤ (a ++ y :: b).length)
    (hxy : y.rank < x.rank) (ha : ∀ z ∈ a, y.rank < z.rank) (hb : ∀ z ∈ b, y.rank ≤ z.rank) :
    arrived x (a ++ y :: b) = a ++ b ++ [x] := by
  have hlow : lowestRank (a ++ y :: b) = y.rank := by
    refine lowestRank_eq (by simp) fun z hz => ?_
    rcases List.mem_append.mp hz with hz | hz
    · exact (ha z hz).le
    · rcases List.mem_cons.mp hz with rfl | hz
      exacts [le_rfl, hb z hz]
  have herase : (a ++ y :: b).eraseP (fun z => z.rank == y.rank) = a ++ b := by
    rw [List.eraseP_append_right _ fun z hz => by simpa using (ha z hz).ne', List.eraseP_cons_of_pos (by simp)]
  have hroom : ¬ (a ++ y :: b).length < reportCapacity := Nat.not_lt.mpr hfull
  unfold arrived
  rw [if_neg hroom, hlow, if_pos hxy, herase]

/-! ## Resets (R177, R178) -/

/-- What a start of LOADING queues: its START report and, where the image is not read, one STORE_FAULT (R178). -/
def StartQueue (r : Road) : Prop :=
  r.lost = false ∧ 1 ≤ r.reports.length ∧ r.reports.length ≤ 2 ∧ ∀ y ∈ r.reports, y.kind = .start ∨ y.kind = .storeFault

theorem startQueue_storeFault {e : Site} {r : Road} {x : Report} (hlost : r.lost = false) (hone : r.reports = [x])
    (hx : x.kind = .start) : StartQueue (r.report e .storeFault 0 .config) := by
  obtain ⟨hqueue, hflag⟩ := Road.arrive_of_room (e := e) (r := r)
    (x := { kind := .storeFault, subject := 0, value := .config, stamp := e.clock }) (by simp [hone])
  simp [StartQueue, Road.report_eq, hqueue, hflag, hlost, hone, hx]

theorem readImage_startQueue {x : Report} (hlost : s.road.lost = false) (hone : s.road.reports = [x])
    (hx : x.kind = .start) : StartQueue s.readImage.road := by
  unfold State.readImage
  split
  · simp [StartQueue, hlost, hone, hx]
  · exact startQueue_storeFault hlost hone hx

/-- A start of LOADING finds the queue empty and the flag clear, and then queues its own reports. -/
theorem startLoading_startQueue (k : StartCause) : StartQueue (s.startLoading k).road :=
  readImage_startQueue rfl rfl rfl

theorem powerOn_of_low {a b : Bool} (h : s.site.resetLow = true) : ∃ u : State, s.powerOn a b = u.hold := ⟨_, if_pos h⟩

theorem powerOn_of_high {a b : Bool} (h : s.site.resetLow = false) :
    ∃ u : State, s.powerOn a b = u.startLoading .power := ⟨_, if_neg (Bool.eq_false_iff.mp h)⟩

theorem lineHigh_of_power {a b : Bool} (h : s.site.powerGood = true) :
    ∃ u : State, s.lineHigh a b = u.startLoading .line := ⟨_, if_pos h⟩

theorem exec_replySent_restarts {x : Reply} {rest : List Reply} (htx : s.site.tx = x :: rest) (hx : x.restarts = true) :
    exec .replySent s = .next ((s.mapSite (Site.replyGone x rest)).startLoading .restart) := by
  simp only [exec, execReplySent, htx, hx, if_true]

/-- Settles O55. The arrivals are read off the one equation of an arrival, the resets off what a start of LOADING
queues. -/
theorem reportsArrive : Obligations.ReportsArrive := by
  refine ⟨fun e x r => ⟨Road.arrive_of_room, fun hfull => ?full⟩, ?held, fun a b s => ⟨_, rfl, ?power⟩, ?line, ?restart⟩
  case full =>
    rw [Road.arrive_eq]
    refine ⟨by simp [reportCapacity, hfull], arrived_of_lowest hfull, fun a y b hr => ?_⟩
    simp only [hr] at hfull ⊢
    exact arrived_displaces hfull
  case held =>
    intro s c hc
    simp only [List.mem_cons, List.not_mem_nil, or_false] at hc
    rcases hc with rfl | rfl <;> exact ⟨_, rfl, rfl, rfl⟩
  case power =>
    cases hlow : s.site.resetLow with
    | true =>
      obtain ⟨u, hu⟩ := powerOn_of_low (a := a) (b := b) hlow
      rw [hu]
      exact ⟨rfl, fun _ => rfl, nofun⟩
    | false =>
      obtain ⟨u, hu⟩ := powerOn_of_high (a := a) (b := b) hlow
      obtain ⟨hlost, hqueue⟩ := startLoading_startQueue (s := u) .power
      rw [hu]
      exact ⟨hlost, nofun, fun _ => hqueue⟩
  case line =>
    intro a b s hlow hgood
    obtain ⟨u, hu⟩ := lineHigh_of_power (a := a) (b := b) hgood
    obtain ⟨hlost, -, hqueue⟩ := startLoading_startQueue (s := u) .line
    exact ⟨_, congrArg Host.Outcome.next ((if_pos hlow).trans hu), hlost, hqueue⟩
  case restart =>
    intro s x rest htx hrestarts
    obtain ⟨hlost, -, hqueue⟩ := startLoading_startQueue (s := s.mapSite (Site.replyGone x rest)) .restart
    exact ⟨_, exec_replySent_restarts htx hrestarts, hlost, hqueue⟩

end Sys2Proof.Machine
end

section
/-! Proof of the delivery of reports by FETCH_REPORTS (R186): choosing one report after another takes the queue class by
class, the oldest first within a class. -/

namespace Sys2Proof.Machine

/-- The reports of one class, oldest first. -/
def ranked (k : Nat) (l : List Report) : List Report := l.filter fun x => x.rank == k

/-- The reports of the classes up to a rank, the highest class first. -/
def byRank : Nat → List Report → List Report
  | 0, l => ranked 0 l
  | k + 1, l => ranked (k + 1) l ++ byRank k l

/-! ## One choice -/

theorem le_foldl_rank (l : List Report) (m : Nat) : m ≤ l.foldl (fun m x => max m x.rank) m ∧
    ∀ y ∈ l, y.rank ≤ l.foldl (fun m x => max m x.rank) m := by
  induction l generalizing m with
  | nil => simp
  | cons a l ih =>
    obtain ⟨hm, hl⟩ := ih (max m a.rank)
    simp only [List.foldl_cons, List.forall_mem_cons]
    exact ⟨by omega, by omega, hl⟩

theorem highestRank_foldl (l : List Report) (m : Nat) :
    l.foldl (fun m x => max m x.rank) m = m ∨ ∃ y ∈ l, y.rank = l.foldl (fun m x => max m x.rank) m := by
  induction l generalizing m with
  | nil => exact .inl rfl
  | cons a l ih =>
    rcases ih (max m a.rank) with h | ⟨y, hy, hrank⟩
    · rcases Nat.le_total m a.rank with hm | hm
      · exact .inr ⟨a, by simp, by rw [List.foldl_cons, h, Nat.max_eq_right hm]⟩
      · exact .inl (by rw [List.foldl_cons, h, Nat.max_eq_left hm])
    · exact .inr ⟨y, by simp [hy], hrank⟩

/-- No report of a queue is of a class above its highest one. -/
theorem rank_le_highestRank {y : Report} {l : List Report} (hy : y ∈ l) : y.rank ≤ highestRank l :=
  (le_foldl_rank l 0).2 y hy

/-- A queue that is not empty holds a report of its highest class. -/
theorem highestRank_mem {l : List Report} (hl : l ≠ []) : ∃ y ∈ l, y.rank = highestRank l := by
  rcases highestRank_foldl l 0 with hzero | hmem
  · obtain ⟨y, hy⟩ := List.exists_mem_of_ne_nil l hl
    have hle : y.rank ≤ 0 := (rank_le_highestRank hy).trans hzero.le
    exact ⟨y, hy, (Nat.le_zero.mp hle).trans hzero.symm⟩
  · exact hmem

/-- The report chosen stands where nothing older is of its class and nothing is of a higher one. -/
theorem pickReport_cons {l : List Report} (hl : l ≠ []) :
    ∃ x a b, l = a ++ x :: b ∧ pickReport l = some (x, a ++ b) ∧ (∀ y ∈ a, y.rank ≠ x.rank) ∧ ∀ y ∈ l, y.rank ≤ x.rank := by
  obtain ⟨y, hy, hrank⟩ := highestRank_mem hl
  obtain ⟨x, a, b, ha, hx, hsplit, herase⟩ :=
    List.exists_of_eraseP (p := fun (z : Report) => z.rank == highestRank l) hy (by simpa using hrank)
  have hhigh : x.rank = highestRank l := by simpa using hx
  have hfind : l.find? (fun z => z.rank == highestRank l) = some x :=
    List.find?_eq_some_iff_append.mpr ⟨hx, a, b, hsplit, by simpa using ha⟩
  refine ⟨x, a, b, hsplit, ?_, fun z hz => by simpa [hhigh] using ha z hz, fun z hz => hhigh ▸ rank_le_highestRank hz⟩
  rw [pickReport, hfind, herase]
  rfl

/-! ## The queue by class -/

variable {x : Report} {a b : List Report}

/-- Taking out a report changes its own class alone. -/
theorem ranked_of_ne {k : Nat} (h : x.rank ≠ k) : ranked k (a ++ x :: b) = ranked k (a ++ b) := by
  simp [ranked, h]

/-- A report with nothing older of its class comes first of it. -/
theorem ranked_self (h : ∀ y ∈ a, y.rank ≠ x.rank) : ranked x.rank (a ++ x :: b) = x :: ranked x.rank (a ++ b) := by
  have hnone : a.filter (fun y => y.rank == x.rank) = [] := by simpa using h
  simp [ranked, hnone]

theorem byRank_of_lt {k : Nat} (h : k < x.rank) : byRank k (a ++ x :: b) = byRank k (a ++ b) := by
  induction k with
  | zero => exact ranked_of_ne h.ne'
  | succ k ih => rw [byRank, byRank, ranked_of_ne h.ne', ih (by omega)]

/-- The report chosen heads the queue by class. -/
theorem byRank_cons {k : Nat} (hold : ∀ y ∈ a, y.rank ≠ x.rank) (htop : ∀ y ∈ a ++ x :: b, y.rank ≤ x.rank)
    (hk : x.rank ≤ k) : byRank k (a ++ x :: b) = x :: byRank k (a ++ b) := by
  induction k with
  | zero =>
    have hzero : x.rank = 0 := Nat.le_zero.mp hk
    simpa [byRank, hzero] using ranked_self (b := b) hold
  | succ k ih =>
    rcases Nat.lt_or_eq_of_le hk with hlt | heq
    · have hnone : ranked (k + 1) (a ++ x :: b) = [] := by
        refine List.filter_eq_nil_iff.mpr fun y hy => ?_
        have := htop y hy
        simp only [beq_iff_eq]
        omega
      have hnone' : ranked (k + 1) (a ++ b) = [] := ranked_of_ne hlt.ne ▸ hnone
      rw [byRank, byRank, hnone, hnone', ih (by omega)]
      rfl
    · rw [byRank, byRank, ← heq, ranked_self hold, byRank_of_lt (by omega)]
      rfl

/-! ## Up to n choices -/

/-- What up to n choices deliver and leave of a queue (R186): the first n by class, nothing else, and what is left of each
class is its newest. -/
structure Delivery (n : Nat) (l delivered left : List Report) : Prop where
  order : delivered = (byRank 3 l).take n
  sublist : left.Sublist l
  perm : (delivered ++ left).Perm l
  split : ∀ k, ranked k l = ranked k delivered ++ ranked k left

theorem byRank_nil (k : Nat) : byRank k [] = [] := by
  induction k with
  | zero => rfl
  | succ k ih => exact ih

theorem delivery_none {n : Nat} {l : List Report} (h : (byRank 3 l).take n = []) : Delivery n l [] l :=
  ⟨h.symm, .refl l, .refl l, fun _ => rfl⟩

/-- One choice before n more. -/
theorem Delivery.cons {n : Nat} {delivered left : List Report} (hold : ∀ y ∈ a, y.rank ≠ x.rank)
    (htop : ∀ y ∈ a ++ x :: b, y.rank ≤ x.rank) (h : Delivery n (a ++ b) delivered left) :
    Delivery (n + 1) (a ++ x :: b) (x :: delivered) left where
  order := by rw [byRank_cons hold htop (ReportClass.rank_le _), List.take_succ_cons, ← h.order]
  sublist := h.sublist.trans ((List.sublist_cons_self x b).append_left a)
  perm := (h.perm.cons x).trans List.perm_middle.symm
  split k := by
    by_cases hk : x.rank = k
    · subst hk
      rw [ranked_self hold, h.split]
      simp [ranked]
    · rw [ranked_of_ne hk, h.split]
      simp [ranked, hk]

theorem pickReports_delivery (n : Nat) (l : List Report) : Delivery n l (pickReports n l).1 (pickReports n l).2 := by
  induction n generalizing l with
  | zero => exact delivery_none rfl
  | succ n ih =>
    by_cases hl : l = []
    · subst hl
      exact delivery_none (by rw [byRank_nil]; rfl)
    · obtain ⟨x, a, b, rfl, hpick, hold, htop⟩ := pickReport_cons hl
      rw [pickReports, hpick]
      exact (ih (a ++ b)).cons hold htop

/-! ## The request -/

/-- FETCH_REPORTS of a RUNNING part: the queue that is left, with the flag cleared and ATTN evaluated on it. -/
theorem exec_fetchReports_ready {g : Byte} {s : State} (h : Ready s) :
    exec (.fetchReports g (.fits ())) s =
      .next (State.replied 0x48 g .ok
        (.reports s.road.lost (pickReports 8 s.road.reports).2.length (pickReports 8 s.road.reports).1)
        { s with road := Road.fetched s.site s.road }) :=
  congrArg Host.Outcome.next ((takeRequest_done h rfl).trans rfl)

/-- Settles O21. By induction on the number of choices, what is delivered is the front of the queue by class. -/
theorem fetchReports : Obligations.FetchReports := by
  intro g s h
  obtain ⟨horder, hsub, hperm, hsplit⟩ := pickReports_delivery 8 s.road.reports
  have hdelivered : (ranked 3 s.road.reports ++ ranked 2 s.road.reports ++ ranked 1 s.road.reports ++
      ranked 0 s.road.reports).take 8 = (pickReports 8 s.road.reports).1 := by
    rw [horder]
    simp only [byRank, List.append_assoc]
  have hattn (l : List Report) : attnOf s.site l = l.any fun x => s.site.cfg.attention.rank ≤ x.rank := by
    obtain ⟨hphase, -, -⟩ := h
    simp [attnOf, Site.running, hphase]
  refine ⟨(pickReports 8 s.road.reports).2, ?_, hsub, ?_, fun k => ?_⟩
  · rw [exec_fetchReports_ready h, Road.fetched, Road.evalAttn, hattn]
    simp only [← hdelivered, ranked]
  · exact hdelivered.symm ▸ hperm
  · have hk := hsplit k
    rw [← hdelivered] at hk
    exact (hk ▸ List.drop_left).symm

end Sys2Proof.Machine
end
